-- ==== Sys2Proof/Word.lean ====
section
/-! DEFINITION. The word types of the GW144 and their plainest arithmetic. -/

namespace Sys2Proof

/-- A byte of the bus, of the local port or of a plane. -/
abbrev Byte := BitVec 8

/-- A 16-bit word: an epoch, a mask, a coordinate on the wire. -/
abbrev Half := BitVec 16

/-- An epoch, 0..65535, which wraps (R113). -/
abbrev Epoch := BitVec 16

/-- A station number, 0..15. -/
abbrev Station := Fin 16

/-- The sixteen station numbers in rising order. -/
def stations : List Station := [0, 1, 2, 3, 4, 5, 6, 7, 8, 9, 10, 11, 12, 13, 14, 15]

/-- Two bytes as one number, the first the most significant (R187). -/
def be16 (hi lo : Byte) : Half := hi ++ lo

/-- Four bytes as one number, the first the most significant (R187). -/
def be32 (a b c d : Byte) : BitVec 32 := a ++ b ++ c ++ d

/-- The high byte of a 16-bit number. -/
def hi8 (w : Half) : Byte := w.extractLsb' 8 8

/-- The low byte of a 16-bit number. -/
def lo8 (w : Half) : Byte := w.extractLsb' 0 8

/-- A 16-bit number as two bytes, most significant first (R187). -/
def bytes16 (w : Half) : List Byte := [hi8 w, lo8 w]

/-- A 32-bit number as four bytes, most significant first (R187). -/
def bytes32 (w : BitVec 32) : List Byte :=
  [w.extractLsb' 24 8, w.extractLsb' 16 8, w.extractLsb' 8 8, w.extractLsb' 0 8]

end Sys2Proof
end

