-- ==== Sys2Proof/Config.lean ====
section
/-! DEFINITION. The fixed numbers of the GW144 (00, "Fixed numbers"), and the unit its timers count in. -/

namespace Sys2Proof.Config

/-- Columns of a tile. -/
def tileColumns : Nat := 144
/-- Rows of a tile. -/
def tileRows : Nat := 48
/-- Bytes of a plane: 6 bands of 144 bytes (R5). -/
def planeBytes : Nat := 864
/-- Places of the outbound queue (R74). -/
def outboundPlaces : Nat := 8
/-- Places of the inbound queue (R78). -/
def inboundPlaces : Nat := 16
/-- Places of the edge outbox (R133). -/
def outboxPlaces : Nat := 2
/-- Places of the edge inbox (R134). -/
def inboxPlaces : Nat := 2
/-- Entries of the digest history (R126). -/
def historyPlaces : Nat := 4
/-- Attempts of one transaction (R51). -/
def maxAttempts : Nat := 8
/-- Consecutive aborts that lead to BUS_FAULT (R54). -/
def maxAborts : Nat := 4
/-- Longest payload, in bytes (R40). -/
def maxPayload : Nat := 160
/-- Idle gap before contending, in bit times (R48). -/
def idleGap : Nat := 11
/-- Hold-off after an own transaction, in bit times (R48). -/
def holdOff : Nat := 24
/-- Bit times of a break that is sent (R52). -/
def breakBits : Nat := 12
/-- Consecutive dominant bits taken as a break (R43). -/
def breakSeen : Nat := 9
/-- The longest run of one level that the line coding leaves within a message, in bit times (R39). -/
def codedRun : Nat := 8
/-- Consecutive recessive bits after which an unsynchronised station places the line (R42). -/
def placeBits : Nat := 32
/-- Ack slots of a message (R40). -/
def ackSlots : Nat := 16
/-- Bits of the end field (R40). -/
def endBits : Nat := 7

/-- Timers count thirds of a microsecond, so that the row time of 1/3 ms (R148) and the bit times of
4 µs and 1 µs (R39) are whole numbers. DESIGN CHOICE, safe (log 16). -/
def unitsPerMs : Nat := 3000
/-- Listen period, 250 ms (R94). -/
def listenLimit : Nat := 250 * unitsPerMs
/-- Beacon interval, 100 ms (R99). -/
def beaconLimit : Nat := 100 * unitsPerMs
/-- Peer silence timeout, 400 ms (R90). -/
def silenceLimit : Nat := 400 * unitsPerMs
/-- Barrier timeout, 200 ms (R122). -/
def barrierLimit : Nat := 200 * unitsPerMs
/-- Edge timeout, 50 ms (R139). -/
def edgeLimit : Nat := 50 * unitsPerMs
/-- Row time, 16/48 ms (R148). -/
def rowLimit : Nat := 1000
/-- Bit time at 1 Mbit/s, 1 µs (R39). -/
def fastBit : Nat := 3
/-- Bit time at 250 kbit/s, 4 µs (R39). -/
def slowBit : Nat := 12

end Sys2Proof.Config
end

