-- ==== Sys2Proof/Syntax.lean ====
section
/-! DEFINITION. The commands of the GW144: one constructor for each row of spec/opcode_table.json. The table gives its
rows no operand fields; the operands here are the quantities the row's rules name (log 12). A row of the local port that does
not itself happen at a rise of **CS#** carries `rises`: whether **CS#** rises right after it, which ends the transaction
(R172); left out, **CS#** stays low. The table has no row for a rise that other events come before: CS_FALL, the row of the edges of
**CS#**, tells it (log 5). -/

namespace Sys2Proof

/-- The nine strap pins as they stand at a sampling (R1). -/
structure StrapPins where
  /-- **STN0**..**STN3**, **STN0** least significant. -/
  stn : BitVec 4
  /-- **TW0**, **TW1**. -/
  tw : BitVec 2
  /-- **TH0**, **TH1**. -/
  th : BitVec 2
  /-- **RATE** is high. -/
  rate : Bool
  deriving DecidableEq, Repr

/-- A message of another station as this station reads it: the fields of R40 but for the class, which the command names,
and the CRC, which is good. -/
structure Received where
  /-- The originator field. -/
  originator : Station
  /-- The seq field. -/
  seq : Byte
  /-- The attempt field. -/
  attempt : BitVec 3
  /-- The payload bytes. -/
  payload : List Byte
  deriving DecidableEq, Repr

/-- The edges of **CS#** that CS_FALL tells (R172, log 5). -/
inductive CsEdges where
  /-- A falling edge. -/
  | fall
  /-- A falling edge, and a rise with no edge of **SCK** between. -/
  | fallRise
  /-- The rise that ends the transaction in progress. -/
  | rise
  deriving DecidableEq, Repr

/-- The commands, in the table's order. -/
inductive Instr where
  /-- POWER_ON (R13): the straps are sampled at its end. -/
  | powerOn (pins : StrapPins)
  /-- RST_RISING_EDGE (R1). -/
  | rstRisingEdge (pins : StrapPins)
  /-- CS_FALL (R172, R174) with the edges of **CS#**. -/
  | csFall (edges : CsEdges := .fall)
  /-- UNKNOWN_OPCODE (R176): the opcode byte that names no command. -/
  | unknownOpcode (opcode : Byte) (rises : Bool := false)
  /-- SHORT_TRANSACTION (R175). -/
  | shortTransaction
  /-- READ_STATUS (R178). -/
  | readStatus (rises : Bool := false)
  /-- READ_EVENTS (R177). -/
  | readEvents (rises : Bool := false)
  /-- READ_DIVERGENCE (R177). -/
  | readDivergence (rises : Bool := false)
  /-- READ_PEER (R179) with its index byte. -/
  | readPeer (index : Byte) (rises : Bool := false)
  /-- READ_WATCH (R179) with its entry byte. -/
  | readWatch (entry : Byte) (rises : Bool := false)
  /-- POST (R180) with the whole bytes that follow its opcode. -/
  | post (record : List Byte)
  /-- CLEAR_EVENTS (R168) with its clear mask. -/
  | clearEvents (mask : Half)
  /-- SET_MASK (R169). -/
  | setMask (mask : Half)
  /-- SET_WATCH (R163) with its seven parameters. -/
  | setWatch (entry enabled : Byte) (x0 : Half) (y0 : Byte) (x1 : Half) (y1 : Byte)
  /-- CLEAR_WATCH_HITS (R165) with its selection byte. -/
  | clearWatchHits (selection : Byte)
  /-- SET_CURSOR (R156). -/
  | setCursor (band column : Byte)
  /-- WRITE_OVERLAY (R157) with the whole data bytes that arrive now, any number of them. -/
  | writeOverlay (data : List Byte) (rises : Bool := false)
  /-- WRITE_OVERLAY_PARTIAL_BYTE (R157). -/
  | writeOverlayPartialByte
  /-- READ_OVERLAY (R158) with the number of bytes shifted out whole now. -/
  | readOverlay (count : Nat) (rises : Bool := false)
  /-- EDIT_BEGIN (R159). -/
  | editBegin
  /-- EDIT_END (R159). -/
  | editEnd
  /-- SET_DISPLAY (R154). -/
  | setDisplay (mode combine contrast : Byte)
  /-- SOFT_RESET (R183). -/
  | softReset
  /-- CONTEND (R48) with the arbitration fields (class, originator) of the stations whose start bits fall in the same bit time. -/
  | contend (rivals : List (BitVec 6))
  /-- SELF_DELIVERY (R73). -/
  | selfDelivery
  /-- ACK_FIELD_END (R51) with the stations whose slots were read dominant. -/
  | ackFieldEnd (slots : List Station)
  /-- MISMATCH (R52). -/
  | mismatch
  /-- TRANSACTION_END (R53). -/
  | transactionEnd
  /-- CANVAS_RECEIVED (R67). -/
  | canvasReceived (m : Received)
  /-- VOTE_RECEIVED (R116). -/
  | voteReceived (m : Received)
  /-- EDGE_RECEIVED (R143). -/
  | edgeReceived (m : Received)
  /-- BEACON_RECEIVED (R100); it carries a HELLO whose state field names no kind too, since that is checked like a BEACON (R92). -/
  | beaconReceived (m : Received)
  /-- JOIN_RECEIVED (R96). -/
  | joinReceived (m : Received)
  /-- LEAVE_RECEIVED (R103). -/
  | leaveReceived (m : Received)
  /-- BAD_CRC (R44) with the bits read, the start bit first: to the last CRC bit, or to a length field above 160; true is
  recessive. -/
  | badCrc (bits : List Bool)
  /-- BREAK (R43): the 9th dominant bit. -/
  | breakSeen
  /-- LINE_END (R117). -/
  | lineEnd
  /-- LISTEN_TIMER_EXPIRY (R94). -/
  | listenTimerExpiry
  /-- BEACON_TIMER_EXPIRY (R99). -/
  | beaconTimerExpiry
  /-- SILENCE_TIMEOUT (R90) of one peer. -/
  | silenceTimeout (peer : Station)
  /-- BARRIER_TIMEOUT (R122). -/
  | barrierTimeout
  /-- EDGE_TIMEOUT (R139). -/
  | edgeTimeout
  /-- ROW_END (R148). -/
  | rowEnd
  /-- DRAW_PLANE_WRITE (R164): the next write of the record in progress. -/
  | drawPlaneWrite
  /-- COPY_COMPLETE (R124): the 864th write of the copy. -/
  | copyComplete
  /-- LINE_PLACED (R42). -/
  | linePlaced
  /-- END_FIELD_UNSYNCED (R42). -/
  | endFieldUnsynced
  /-- RST_ASSERTED (R13). -/
  | rstAsserted
  deriving DecidableEq, Repr

end Sys2Proof
end

