-- ==== Sys2Proof/Machine/State.lean ====
section
/-! DEFINITION. The state of the GW144 as plain data: the blocks of the manual's block overview, each with what it holds, and
the queue of the commands that are waiting. INVENTORY.md lists every field with its rule. -/

namespace Sys2Proof.Machine

/-! ### Straps and memory -/

/-- The strap record (R1). -/
structure Straps where
  /-- The station number. -/
  n : Station
  /-- The wall width in tiles, 1..4. -/
  w : Nat
  /-- The wall height in tiles, 1..4. -/
  h : Nat
  /-- 1 Mbit/s rather than 250 kbit/s. -/
  fast : Bool
  deriving DecidableEq, Repr

/-- A plane's bytes by address 144·band + column, in canonical form: addresses rising and below 864, no entry 0. An unlisted
byte reads 0, the contents the spec gives for reset (R13, R160). -/
abbrev Memory := List Host.Cell

/-- The two main planes (R5). -/
inductive PlaneName where
  | a | b
  deriving DecidableEq, Repr

/-! ### Bus Interface -/

/-- The framing stages (R42). -/
inductive Stage where
  | unsynced | idle | frame | ack | ending | break
  deriving DecidableEq, Repr

/-- How a station follows the line (R42, R46, R48). -/
structure Framing where
  /-- The framing stage. -/
  stage : Stage
  /-- Consecutive recessive bit times. -/
  recRun : Nat
  /-- Consecutive dominant bit times, those of an ack field left out. -/
  domRun : Nat
  /-- Recessive bit times since the stage entered IDLE. -/
  gap : Nat
  /-- The gap this station needs before it contends. -/
  requiredGap : Nat
  /-- Ack slots or end bits passed. -/
  position : Nat
  /-- The bits read in FRAME, the start bit first; true is recessive. -/
  bits : List Bool
  /-- The class owner decided to ack, and the own slot has not passed. -/
  ackDue : Bool
  deriving DecidableEq, Repr

/-- Whose message a transaction carries, with what the owner fixed at its start (R50). -/
inductive TxOwner where
  /-- The own VOTE, for an epoch. -/
  | vote (epoch : Epoch)
  /-- The head of the edge outbox, for a target. -/
  | edge (target : Station)
  /-- The head of the outbound queue. -/
  | canvas
  | beacon | join | leave
  deriving DecidableEq, Repr

/-- Where a transaction stands (R50, R51, R52, R60). -/
inductive TxPhase where
  /-- Sending an attempt; `position` bits of it, the start bit among them, have been sent. -/
  | sending (position : Nat)
  /-- In the ack field; `position` slots have passed, those in `slots` dominant. -/
  | acks (position : Nat) (slots : List Station)
  /-- In the last end field, the ack field having given COMPLETE or EXHAUSTED. -/
  | closing (position : Nat) (complete : Bool)
  /-- Sending a break of `left` more bits after `wait` released bits; a soft reset's break hands no outcome on. -/
  | breaking (wait left : Nat) (softReset : Bool)
  deriving DecidableEq, Repr

/-- The transaction in progress (R50). -/
structure Txn where
  owner : TxOwner
  /-- The seq field. -/
  seq : Byte
  /-- The payload, the same in every attempt. -/
  payload : List Byte
  /-- Attempts sent, 1..8. -/
  attempts : Nat
  /-- Whether any attempt has completed its CRC field. -/
  crcDone : Bool
  /-- The stations whose slots have been dominant in any attempt so far. -/
  acked : List Station
  phase : TxPhase
  deriving DecidableEq, Repr

/-- What the Bus Interface holds. -/
structure Bus where
  framing : Framing
  /-- The transaction in progress, the arbiter's choice. -/
  tx : Option Txn
  /-- The consecutive abort count, 0..4 (R54). -/
  aborts : Nat
  deriving DecidableEq, Repr

/-! ### Stream Controller -/

/-- An inbound record (R22). -/
structure InRecord where
  /-- The op record as the bytes carried. -/
  bytes : List Byte
  originator : Station
  seq : Byte
  /-- The epoch tag, present for a well-formed PRESENT. -/
  tag : Option Epoch
  malformed : Bool
  deriving DecidableEq, Repr

/-- The last POST result (R75). -/
inductive PostResult where
  | accepted | full | invalid | notMember
  deriving DecidableEq, Repr

/-- What the Stream Controller holds. -/
structure Stream where
  /-- The outbound queue, head first. -/
  outbound : List (List Byte)
  /-- The inbound queue, head first. -/
  inbound : List InRecord
  /-- The own sequence counter (R63). -/
  counter : Byte
  /-- The stream epoch S (R82). -/
  epoch : Epoch
  lastPost : PostResult
  deriving DecidableEq, Repr

/-! ### Membership Unit and the peer table -/

/-- The station states (R85). -/
inductive StationState where
  | strapFault | listening | joining | member | outOfStep | busFault
  deriving DecidableEq, Repr

/-- The states of a peer entry (R87, R88). -/
inductive PeerState where
  | self | absent | member | dropped | foreign
  deriving DecidableEq, Repr

/-- A peer table entry (R87). The own entry's voted epoch is V, and is computed. -/
structure Peer where
  state : PeerState
  /-- The silence timer, stopped or running. -/
  silence : Option Nat
  /-- The expected sequence E (R65). -/
  expected : Option Byte
  /-- The last applied sequence A (R33). -/
  applied : Option Byte
  /-- The voted epoch (R118). -/
  voted : Option Epoch
  diverged : Bool
  deriving DecidableEq, Repr

/-- The kinds of HELLO message (R92). -/
inductive HelloKind where
  | beacon | join | leave
  deriving DecidableEq, Repr

/-- The causes of a divergence (R108). -/
inductive DivergenceCause where
  | streamEpoch | digest | joinEpoch
  deriving DecidableEq, Repr

/-- The divergence record (R108). -/
structure DivergenceRecord where
  peer : Station
  cause : DivergenceCause
  epoch : Epoch
  own : BitVec 32
  theirs : BitVec 32
  deriving DecidableEq, Repr

/-- What the Membership Unit holds beside its fields of the peer table. -/
structure Members where
  station : StationState
  /-- The listen timer (R94). -/
  listenTimer : Option Nat
  /-- The beacon timer (R99). -/
  beaconTimer : Option Nat
  /-- The pending HELLO. -/
  hello : Option HelloKind
  divergence : Option DivergenceRecord
  deriving DecidableEq, Repr

/-! ### Raster Engine and Barrier Unit -/

/-- The engine states (R23). -/
inductive EngineState where
  | idle | applying | awaitEdge | awaitBarrier | copying
  deriving DecidableEq, Repr

/-- A digest history entry (R126). -/
structure HistoryEntry where
  epoch : Epoch
  digest : BitVec 32
  complete : Bool
  deriving DecidableEq, Repr

/-- The picture mark (R126). -/
inductive PictureMark where
  | partialPicture | wholePicture
  deriving DecidableEq, Repr

/-- What the Raster Engine holds; the record it applies is the head of the inbound queue. -/
structure Raster where
  planeA : Memory
  planeB : Memory
  engine : EngineState
  /-- Writes of the run in progress already issued. -/
  issued : Nat
  /-- The digest accumulator D (R125). -/
  digest : BitVec 32
  /-- The digest history, oldest first. -/
  history : List HistoryEntry
  mark : PictureMark
  deriving DecidableEq, Repr

/-- What the Barrier Unit holds beside its field of the peer table. -/
structure Barrier where
  /-- The role pointer: the shown plane (R8). -/
  shown : PlaneName
  /-- The committed epoch C. -/
  committed : Epoch
  /-- The own voted epoch V. -/
  voted : Epoch
  /-- The VOTE slot. -/
  slot : Option Epoch
  /-- The tag of the pending barrier (R114). -/
  pending : Option Epoch
  /-- The barrier timer. -/
  timer : Option Nat
  /-- The late set (R122). -/
  late : List Station
  /-- A voted epoch to be written at the line end (R117). -/
  pendingVote : Option (Station × Epoch)
  deriving DecidableEq, Repr

/-! ### Edge Unit -/

/-- The directions of a SHIFT (R15). -/
inductive Direction where
  | left | right | up | down
  deriving DecidableEq, Repr

/-- The steps of a shift in progress (R132). -/
inductive ShiftStep where
  | capture | move | await | fill
  deriving DecidableEq, Repr

/-- The shift in progress (R132). The strip is kept as the bytes an EDGE message carries; in step FILL an absent strip is a
fill with 0. -/
structure Shift where
  originator : Station
  seq : Byte
  direction : Direction
  k : Nat
  /-- ROTATE rather than BLANK. -/
  rotate : Bool
  step : ShiftStep
  strip : Option (List Byte)
  deriving DecidableEq, Repr

/-- An edge outbox record (R133). -/
structure OutboxRecord where
  originator : Station
  seq : Byte
  direction : Direction
  k : Nat
  target : Station
  data : List Byte
  deriving DecidableEq, Repr

/-- An edge inbox entry (R134). -/
structure InboxEntry where
  originator : Station
  seq : Byte
  direction : Direction
  k : Nat
  data : List Byte
  deriving DecidableEq, Repr

/-- What the Edge Unit holds. -/
structure Edge where
  shift : Option Shift
  outbox : List OutboxRecord
  inbox : List InboxEntry
  /-- The edge timer. -/
  timer : Option Nat
  deriving DecidableEq, Repr

/-! ### Scan Generator, Local Port, watch table and Event Unit -/

/-- The display modes (R152). -/
inductive DisplayMode where
  | off | normal | reverse | allOn
  deriving DecidableEq, Repr

/-- The combine settings (R151). -/
inductive Combine where
  | none | or | xor
  deriving DecidableEq, Repr

/-- The display settings (R154). -/
structure Display where
  mode : DisplayMode
  combine : Combine
  /-- The contrast q, 0..15. -/
  contrast : Nat
  deriving DecidableEq, Repr

/-- What **SEG** and **COM** are held at during a row (R149, R152, R153). -/
inductive RowOutput where
  /-- Every line at the non-select level. -/
  | notSelected
  /-- **COM** of `row` selected, column c lit as `lit` says, driven at `amplitude`/32 of **VLCD**. -/
  | driven (row : Nat) (lit : List Bool) (amplitude : Nat)
  deriving DecidableEq, Repr

/-- What the Scan Generator holds. -/
structure Scan where
  /-- The row in progress. -/
  row : Nat
  /-- The row timer, stopped while the part is held in reset. -/
  timer : Option Nat
  out : RowOutput
  deriving DecidableEq, Repr

/-- Where a port transaction stands (R172, R175, R176, R185). -/
inductive PortPhase where
  /-- **CS#** is high. -/
  | idle
  /-- **CS#** has fallen and no command has been told apart yet. -/
  | opened
  /-- **CS#** is low and the command has acted, or the rest of the transaction is ignored. -/
  | finished
  /-- **CS#** is low in a WRITE OVERLAY: a further byte is a data byte. -/
  | writing
  /-- **CS#** is low in a READ OVERLAY: a further byte shifts out an overlay byte. -/
  | reading
  /-- **CS#** was low in a reset: nothing is taken until it has risen and fallen again. -/
  | waitRise
  deriving DecidableEq, Repr

/-- An overlay cursor (R156). -/
structure Cursor where
  band : Nat
  column : Nat
  deriving DecidableEq, Repr

/-- What the Local Port holds beside the watch configuration. -/
structure Port where
  phase : PortPhase
  /-- The bytes loaded for **SDO** in the last transaction begun, the status byte first; filler follows them. -/
  out : List Byte
  overlay : Memory
  cursor : Cursor
  /-- The mark, present exactly while edit mode is on (R156). -/
  mark : Option Cursor
  display : Display
  deriving DecidableEq, Repr

/-- A watch entry (R162). Its hit is set exactly while its first hit is present. -/
structure WatchEntry where
  enabled : Bool
  x0 : Nat
  y0 : Nat
  x1 : Nat
  y1 : Nat
  firstHit : Option (Station × Byte)
  deriving DecidableEq, Repr

/-- What the Event Unit holds. -/
structure Events where
  flags : Half
  mask : Half
  deriving DecidableEq, Repr

/-! ### The whole part -/

/-- The state of the part and the queue of commands that are waiting. -/
structure State where
  straps : Straps
  /-- **RST#** holds the part in reset. -/
  held : Bool
  bus : Bus
  stream : Stream
  members : Members
  peers : List Peer
  raster : Raster
  barrier : Barrier
  edge : Edge
  scan : Scan
  port : Port
  watch : List WatchEntry
  events : Events
  /-- The commands that are waiting, first in, first out. -/
  pending : List Instr
  deriving DecidableEq, Repr

/-- No command of the part ends in a fault: what goes wrong is reported by event flags and station states, which are state
(R85, R167). Nobody raises a fault, so the type is empty. -/
inductive Fault where
  deriving DecidableEq, Repr

/-- Why a command has no meaning. -/
inductive Refusal where
  /-- Raised by no arm of `exec`: every row of the table has its meaning. Safe: the model would stop where the part goes on. -/
  | notModelled (mnemonic : String)
  deriving DecidableEq, Repr

/-! ### Reset -/

/-- An entry of the peer table after a reset (R87). -/
def Peer.reset (own : Bool) : Peer :=
  { state := if own then .self else .absent, silence := none, expected := none, applied := none, voted := none
    diverged := false }

/-- The peer table after a reset (R87, R110). -/
def peersAfterReset (n : Station) : List Peer := stations.map fun i => Peer.reset (i = n)

/-- A watch entry after power-on (R166). -/
def WatchEntry.reset : WatchEntry := { enabled := false, x0 := 0, y0 := 0, x1 := 0, y1 := 0, firstHit := none }

/-- The framing after power-on: UNSYNCED with both run counts 0 and a first required gap of 11 (R59). -/
def Framing.reset : Framing :=
  { stage := .unsynced, recRun := 0, domRun := 0, gap := 0, requiredGap := Config.idleGap, position := 0, bits := []
    ackDue := false }

/-- Whether a station number fits its wall (R86). -/
def Straps.fits (g : Straps) : Bool := decide (g.n.val < g.w * g.h)

/-- The part as every reset value leaves it under a strap record, the first frame start made, with nothing waiting (R13,
R59, R83, R86, R91, R110, R129, R146, R160, R166, R170, R185). -/
def State.afterReset (g : Straps) : State :=
  { straps := g
    held := false
    bus := { framing := Framing.reset, tx := none, aborts := 0 }
    stream := { outbound := [], inbound := [], counter := 0, epoch := 0, lastPost := .accepted }
    members :=
      { station := if g.fits then .listening else .strapFault
        listenTimer := if g.fits then some 0 else none
        beaconTimer := none, hello := none, divergence := none }
    peers := peersAfterReset g.n
    raster :=
      { planeA := [], planeB := [], engine := .idle, issued := 0, digest := 0, history := [], mark := .partialPicture }
    barrier :=
      { shown := .a, committed := 0, voted := 0, slot := none, pending := none, timer := none, late := []
        pendingVote := none }
    edge := { shift := none, outbox := [], inbox := [], timer := none }
    scan := { row := 0, timer := some 0, out := .notSelected }
    port :=
      { phase := .idle, out := [], overlay := [], cursor := { band := 0, column := 0 }, mark := none
        display := { mode := .off, combine := .none, contrast := 8 } }
    watch := List.replicate 4 WatchEntry.reset
    events := { flags := 1, mask := 0 }
    pending := [] }

/-- The strap record of a part whose nine strap pins are low. DESIGN CHOICE, unsafe (log 6): the spec gives the pins no
value. -/
def strapsAllLow : Straps := { n := 0, w := 1, h := 1, fast := false }

/-- The part right after reset, its strap pins low. -/
def State.reset : State := State.afterReset strapsAllLow

end Sys2Proof.Machine
end

