-- ==== Sys2Proof/Machine/Ops.lean ====
section
/-! DEFINITION. The named operations over memory, geometry, the peer table, the epochs and the planes. -/

namespace Sys2Proof.Machine

/-! ### Memory -/

/-- The byte at an address: what was last written, or 0, its reset value (R6). -/
def Memory.read (m : Memory) (a : Nat) : Byte :=
  match m with
  | [] => 0
  | (b, v) :: rest => if b = a then v else Memory.read rest a

/-- A cell put at its place of a list with rising addresses, in the canonical form: a 0 is not listed. -/
def Memory.insert (m : Memory) (a : Nat) (v : Byte) : Memory :=
  match m with
  | [] => if v = 0 then [] else [(a, v)]
  | (b, x) :: rest =>
    if a < b then (if v = 0 then (b, x) :: rest else (a, v) :: (b, x) :: rest)
    else if a = b then (if v = 0 then rest else (a, v) :: rest)
    else (b, x) :: Memory.insert rest a v

/-- A byte write (R6). A plane has 864 bytes, and no command addresses another. -/
def Memory.write (m : Memory) (a : Nat) (v : Byte) : Memory :=
  if a < Config.planeBytes then Memory.insert m a v else m

/-- Every address of a list is above a bound and below 864, they rise, and no entry is 0. -/
def Memory.wfAbove (low : Nat) : Memory → Bool
  | [] => true
  | (a, v) :: rest => decide (low ≤ a) && decide (a < Config.planeBytes) && decide (v ≠ 0) && Memory.wfAbove (a + 1) rest

/-- The canonical form of a plane. -/
def Memory.wf (m : Memory) : Bool := Memory.wfAbove 0 m

/-- The address of the byte of a band at a column: its place in plane order (R5, R7). -/
def byteAddress (band column : Nat) : Nat := band * Config.tileColumns + column

/-- The pixel at local column c, row r: bit r mod 8 of the byte at band r div 8 (R5). -/
def Memory.pixel (m : Memory) (c r : Nat) : Bool := (m.read (byteAddress (r / 8) c)).getLsbD (r % 8)

/-! ### Geometry -/

/-- Canvas width, 144·W (R2). -/
def Straps.canvasWidth (g : Straps) : Nat := Config.tileColumns * g.w
/-- Canvas height, 48·H (R2). -/
def Straps.canvasHeight (g : Straps) : Nat := Config.tileRows * g.h
/-- Tile column, n mod W (R3). -/
def Straps.tileColumn (g : Straps) : Nat := g.n.val % g.w
/-- Tile row, n div W (R3). -/
def Straps.tileRow (g : Straps) : Nat := g.n.val / g.w
/-- The window's left canvas column (R3). -/
def Straps.windowLeft (g : Straps) : Nat := Config.tileColumns * g.tileColumn
/-- The window's top canvas row (R3). -/
def Straps.windowTop (g : Straps) : Nat := Config.tileRows * g.tileRow

/-- A canvas pixel is on the canvas and in the window: clipping keeps it (R10). -/
def Straps.keeps (g : Straps) (x y : Nat) : Bool :=
  decide (x < g.canvasWidth ∧ y < g.canvasHeight ∧ g.windowLeft ≤ x ∧ x ≤ g.windowLeft + 143
    ∧ g.windowTop ≤ y ∧ y ≤ g.windowTop + 47)

/-- The strap record of sampled pins (R1). -/
def StrapPins.record (p : StrapPins) : Straps :=
  { n := p.stn.toFin, w := p.tw.toNat + 1, h := p.th.toNat + 1, fast := p.rate }

/-! ### Serial numbers -/

/-- A sequence number a is after b (00, "Serial comparison"). -/
def seqAfter (a b : Byte) : Bool := decide (1 ≤ (a - b).toNat ∧ (a - b).toNat ≤ 127)

/-- An epoch a is at or after b (R113). -/
def epochAtOrAfter (a b : Epoch) : Bool := decide ((a - b).toNat < 32768)

/-- A field that may be absent has reached an epoch; an absent one never has (R113). -/
def votedFor (field : Option Epoch) (t : Epoch) : Bool :=
  match field with
  | some v => epochAtOrAfter v t
  | none => false

/-- The later of a value and a new one (R113). -/
def laterEpoch (old new : Epoch) : Epoch := if epochAtOrAfter new old then new else old

/-- A field that may be absent keeps the later of its value and a new one (R113). -/
def keepLater (field : Option Epoch) (new : Epoch) : Option Epoch :=
  match field with
  | some old => some (laterEpoch old new)
  | none => some new

/-! ### The peer table -/

/-- The entry of a station (R87). -/
def State.peer (s : State) (n : Station) : Peer := (s.peers[n.val]?).getD (Peer.reset false)

/-- One entry changed. -/
def State.setPeer (s : State) (n : Station) (f : Peer → Peer) : State := { s with peers := s.peers.modify n.val f }

/-- Every entry changed. -/
def State.mapPeers (s : State) (f : Peer → Peer) : State := { s with peers := s.peers.map f }

/-- The entry is MEMBER: the station is in the roster (R89). -/
def State.inRoster (s : State) (n : Station) : Bool := decide ((s.peer n).state = .member)

/-- The roster (R89). -/
def State.roster (s : State) : List Station := stations.filter s.inRoster

/-- The entry is FOREIGN (R107). -/
def State.isForeign (s : State) (n : Station) : Bool := decide ((s.peer n).state = .foreign)

/-- The voted epoch an entry shows: V for the own entry (R87, R115). -/
def State.votedShown (s : State) (n : Station) : Option Epoch :=
  if n = s.straps.n then some s.barrier.voted else (s.peer n).voted

/-! ### Membership -/

/-- The station is MEMBER. -/
def State.isMember (s : State) : Bool := decide (s.members.station = .member)

/-- The station is LISTENING or JOINING, and so observes (R71). -/
def State.observes (s : State) : Bool := decide (s.members.station = .listening ∨ s.members.station = .joining)

/-- The station hands received messages to its blocks (R45). -/
def State.handsOn (s : State) : Bool := decide (s.members.station ≠ .strapFault ∧ s.members.station ≠ .busFault)

/-! ### Planes -/

/-- The other main plane. -/
def PlaneName.other : PlaneName → PlaneName
  | .a => .b
  | .b => .a

/-- A main plane by name. -/
def State.plane (s : State) (p : PlaneName) : Memory :=
  match p with
  | .a => s.raster.planeA
  | .b => s.raster.planeB

/-- A main plane replaced. -/
def State.setPlane (s : State) (p : PlaneName) (m : Memory) : State :=
  match p with
  | .a => { s with raster := { s.raster with planeA := m } }
  | .b => { s with raster := { s.raster with planeB := m } }

/-- The shown plane (R8). -/
def State.shownPlane (s : State) : Memory := s.plane s.barrier.shown

/-- The draw plane (R8). -/
def State.drawPlane (s : State) : Memory := s.plane s.barrier.shown.other

/-- The draw plane replaced. -/
def State.setDrawPlane (s : State) (m : Memory) : State := s.setPlane s.barrier.shown.other m

/-! ### Ages -/

/-- A timer a while later; a stopped timer stays stopped. -/
def advanceTimer (t : Option Nat) (units : Nat) : Option Nat := t.map (· + units)

/-- A running timer has reached its limit. -/
def timerDue (t : Option Nat) (limit : Nat) : Bool :=
  match t with
  | some v => decide (limit ≤ v)
  | none => false

/-- An effect on the part when **RST#** does not hold it in reset; a held part does nothing (R13, log 8). -/
def whenRunning (s : State) (f : State → State) : State := if s.held then s else f s

end Sys2Proof.Machine
end

