-- ==== Sys2Proof/Machine/Flags.lean ====
section
/-! DEFINITION. The event flags, the mask and **IRQ#** (chapter 9). -/

namespace Sys2Proof.Machine

/-- The sixteen event flags (R167). -/
inductive Event where
  | frame | commit | barrierLate | watch | peerJoined | peerLeft | canvasLost | diverged | edgeTimeout | edgeLost
  | outboundSpace | format | geometry | busFault | portError | joined
  deriving DecidableEq, Repr

/-- A flag's bit number (R167). -/
def Event.number : Event → Nat
  | .frame => 0
  | .commit => 1
  | .barrierLate => 2
  | .watch => 3
  | .peerJoined => 4
  | .peerLeft => 5
  | .canvasLost => 6
  | .diverged => 7
  | .edgeTimeout => 8
  | .edgeLost => 9
  | .outboundSpace => 10
  | .format => 11
  | .geometry => 12
  | .busFault => 13
  | .portError => 14
  | .joined => 15

/-- The word with a flag's bit alone. -/
def Event.bit (e : Event) : Half := BitVec.twoPow 16 e.number

/-- Raising a flag sets it, or leaves it set (R167). -/
def State.raise (s : State) (e : Event) : State := { s with events := { s.events with flags := s.events.flags ||| e.bit } }

/-- Raising a flag when a condition holds. -/
def State.raiseIf (s : State) (c : Bool) (e : Event) : State := if c then s.raise e else s

/-- A flag is set. -/
def State.flagSet (s : State) (e : Event) : Bool := s.events.flags.getLsbD e.number

/-- Some flag is set whose mask bit is set (R169). -/
def State.irqPending (s : State) : Bool := decide (s.events.flags &&& s.events.mask ≠ 0)

/-- **IRQ#** is driven low (R169); a part held in reset releases it (R170). -/
def State.irqLow (s : State) : Bool := !s.held && s.irqPending

/-- A divergence found: the flag, the peer's mark, and the record when it is absent (R109). -/
def State.diverge (s : State) (r : DivergenceRecord) : State :=
  let s := (s.raise .diverged).setPeer r.peer fun p => { p with diverged := true }
  match s.members.divergence with
  | some _ => s
  | none => { s with members := { s.members with divergence := some r } }

end Sys2Proof.Machine
end

