-- ==== Sys2Proof/Decode.lean ====
section
/-! DEFINITION. From bits and bytes to commands, and back: the bits and bytes of a port transaction (R172, R175, R176, R180, R187, 11.9)
and the bits of a bus message (R40, R41, R44, 11.3). The opcode table itself gives no row bits. -/

namespace Sys2Proof

/-- The command a word spells by the table's bits. The table gives no row any bits, so no word spells a command (log 23). -/
def decodeTableWord (_nbits _w : Nat) : Option Instr := none

/-! ### Bits and bytes -/

/-- A field's bits, most significant first (R40, R172, R187); on the bus true is a recessive 1. -/
def fieldBits {n : Nat} (v : BitVec n) : List Bool := (List.range n).map v.getMsbD

/-- The number that bits spell, most significant first. -/
def bitsValue (bits : List Bool) : Nat := bits.foldl (fun acc b => 2 * acc + b.toNat) 0

/-- Bits grouped into bytes, most significant bit first. -/
def groupBytes : Nat → List Bool → List Byte
  | 0, _ => []
  | n + 1, bits => BitVec.ofNat 8 (bitsValue (bits.take 8)) :: groupBytes n (bits.drop 8)

/-! ### The local port -/

/-- How many bytes a posted op record is, by its kind, when that many have arrived; none while the POST is short (R180). A
kind byte naming no kind, and a STRIP with n of 0 or above 64, are judged on what names them. -/
def recordLength : List Byte → Option Nat
  | [] => none
  | kind :: rest =>
    let have' := rest.length + 1
    let fixed (n : Nat) : Option Nat := if n ≤ have' then some n else none
    if kind = 0x01 then fixed 8
    else if kind = 0x02 then
      match rest with
      | _ :: _ :: _ :: _ :: n :: _ => if n = 0 ∨ 64 < n.toNat then some 6 else fixed (6 + n.toNat)
      | _ => none
    else if kind = 0x03 then fixed 4
    else if kind = 0x04 then fixed 2
    else some 1

/-- The opcodes that name a command (11.9). -/
def knownOpcodes : List Byte :=
  [0x01, 0x02, 0x03, 0x04, 0x05, 0x06, 0x10, 0x20, 0x21, 0x22, 0x30, 0x31, 0x32, 0x33, 0x34, 0x40, 0x70]

/-- The commands that the whole bytes of one port transaction and the bits of a last partial byte perform after CS_FALL and up to
the rise of **CS#**, in their order (R172, R173, R175, R176, R180). Bytes past a command's length are ignored (R175). -/
def decodeTransaction (bytes : List Byte) (partialBits : Nat) : List Instr :=
  match bytes with
  | [] => if partialBits = 0 then [] else [.shortTransaction]
  | opcode :: params =>
    if opcode = 0x01 then [.readStatus true]
    else if opcode = 0x02 then [.readEvents true]
    else if opcode = 0x03 then
      match params with
      | a :: b :: _ => [.clearEvents (be16 a b)]
      | _ => [.shortTransaction]
    else if opcode = 0x04 then
      match params with
      | a :: b :: _ => [.setMask (be16 a b)]
      | _ => [.shortTransaction]
    else if opcode = 0x05 then
      match params with
      | i :: _ => [.readPeer i true]
      | _ => [.shortTransaction]
    else if opcode = 0x06 then [.readDivergence true]
    else if opcode = 0x10 then
      match recordLength params with
      | some n => [.post (params.take n)]
      | none => [.shortTransaction]
    else if opcode = 0x20 then
      match params with
      | e :: en :: a :: b :: y0 :: c :: d :: y1 :: _ => [.setWatch e en (be16 a b) y0 (be16 c d) y1]
      | _ => [.shortTransaction]
    else if opcode = 0x21 then
      match params with
      | e :: _ => [.readWatch e true]
      | _ => [.shortTransaction]
    else if opcode = 0x22 then
      match params with
      | x :: _ => [.clearWatchHits x]
      | _ => [.shortTransaction]
    else if opcode = 0x30 then
      match params with
      | b :: c :: _ => [.setCursor b c]
      | _ => [.shortTransaction]
    else if opcode = 0x31 then
      if partialBits = 0 then [.writeOverlay params true] else [.writeOverlay params false, .writeOverlayPartialByte]
    else if opcode = 0x32 then [.readOverlay params.length true]
    else if opcode = 0x33 then [.editBegin]
    else if opcode = 0x34 then [.editEnd]
    else if opcode = 0x40 then
      match params with
      | m :: c :: q :: _ => [.setDisplay m c q]
      | _ => [.shortTransaction]
    else if opcode = 0x70 then [.softReset]
    else [.unknownOpcode opcode true]

/-- The same from the bits of **SDI**, one for each rising edge of **SCK**: eight from the start on are a byte, the most
significant first, and what is left over is a partial byte (R172, R187). -/
def decodeSdi (bits : List Bool) : List Instr :=
  decodeTransaction (groupBytes (bits.length / 8) bits) (bits.length % 8)

/-- The bytes a host sends on **SDI** for a port command (11.9), none for the rows that are no whole transaction. -/
def encodeTransaction : Instr → Option (List Byte)
  | .unknownOpcode opcode true => some [opcode]
  | .readStatus true => some [0x01]
  | .readEvents true => some [0x02]
  | .readDivergence true => some [0x06]
  | .readPeer i true => some [0x05, i]
  | .readWatch e true => some [0x21, e]
  | .post r => some (0x10 :: r)
  | .clearEvents m => some (0x03 :: bytes16 m)
  | .setMask m => some (0x04 :: bytes16 m)
  | .setWatch e en x0 y0 x1 y1 => some ([0x20, e, en] ++ bytes16 x0 ++ [y0] ++ bytes16 x1 ++ [y1])
  | .clearWatchHits x => some [0x22, x]
  | .setCursor b c => some [0x30, b, c]
  | .writeOverlay data true => some (0x31 :: data)
  | .readOverlay n true => some (0x32 :: List.replicate n 0)
  | .editBegin => some [0x33]
  | .editEnd => some [0x34]
  | .setDisplay m c q => some [0x40, m, c, q]
  | .softReset => some [0x70]
  | .powerOn _ | .rstRisingEdge _ | .csFall _ | .unknownOpcode _ false | .shortTransaction
  | .readStatus false | .readEvents false | .readDivergence false | .readPeer _ false | .readWatch _ false
  | .writeOverlay _ false | .readOverlay _ false | .writeOverlayPartialByte | .contend _ | .selfDelivery
  | .ackFieldEnd _ | .mismatch | .transactionEnd | .canvasReceived _ | .voteReceived _ | .edgeReceived _
  | .beaconReceived _ | .joinReceived _ | .leaveReceived _ | .badCrc _ | .breakSeen | .lineEnd | .listenTimerExpiry
  | .beaconTimerExpiry | .silenceTimeout _ | .barrierTimeout | .edgeTimeout | .rowEnd | .drawPlaneWrite | .copyComplete
  | .linePlaced | .endFieldUnsynced | .rstAsserted => none

/-- The bits of those bytes on **SDI**, the most significant of each byte first (R172, R187). -/
def encodeSdi (i : Instr) : Option (List Bool) := (encodeTransaction i).map fun l => l.flatMap fieldBits

/-! ### The bus -/

/-- One bit shifted into the check register, generator x^16 + x^12 + x^5 + 1 (R41). -/
def crcStep (reg : Half) (b : Bool) : Half :=
  let shifted := reg <<< 1
  if reg.msb != b then shifted ^^^ 0x1021 else shifted

/-- The check over a run of bits, the register preset to all ones (R41). -/
def crc16 (bits : List Bool) : Half := bits.foldl crcStep 0xFFFF

/-- The codes of the message classes (11.2). -/
inductive MsgClass where
  | vote | edge | canvas | hello
  deriving DecidableEq, Repr

/-- The class code (11.2). -/
def MsgClass.code : MsgClass → BitVec 2
  | .vote => 0
  | .edge => 1
  | .canvas => 2
  | .hello => 3

/-- The class of a code (11.2). -/
def MsgClass.ofCode (c : Nat) : MsgClass :=
  if c = 0 then .vote else if c = 1 then .edge else if c = 2 then .canvas else .hello

/-- The arbitration field: class, then originator (R40). -/
def arbitrationField (cls : MsgClass) (n : Station) : BitVec 6 := cls.code ++ BitVec.ofNat 4 n.val

/-- The bits that the CRC covers: arbitration field, control field and payload (R40, R41). -/
def coveredBits (cls : MsgClass) (m : Received) : List Bool :=
  fieldBits (arbitrationField cls m.originator) ++ fieldBits m.seq ++ fieldBits m.attempt
    ++ fieldBits (BitVec.ofNat 8 m.payload.length) ++ m.payload.flatMap fieldBits

/-- The bits of one attempt, from the start bit to the last CRC bit (R40). -/
def frameBits (cls : MsgClass) (m : Received) : List Bool :=
  false :: (coveredBits cls m ++ fieldBits (crc16 (coveredBits cls m)))

/-- A field of a message: `len` bits from bit time `start`. -/
def fieldAt (bits : List Bool) (start len : Nat) : Nat := bitsValue ((bits.drop start).take len)

/-- Bit times of an attempt from its start bit to its last CRC bit, with a payload of L bytes: 42 + 8L (R40). -/
def frameLength (payloadBytes : Nat) : Nat := 42 + 8 * payloadBytes

/-- The length field, once its bits have been read (bit times 18 to 25, R40). -/
def lengthRead (bits : List Bool) : Option Nat := if 26 ≤ bits.length then some (fieldAt bits 18 8) else none

/-- The reception of a message of a class; a HELLO is named by its state field (R92), by BEACON when the field names no kind. -/
def receptionOf (cls : MsgClass) (m : Received) : Instr :=
  match cls with
  | .vote => .voteReceived m
  | .edge => .edgeReceived m
  | .canvas => .canvasReceived m
  | .hello =>
    if m.payload.head? = some 2 then .joinReceived m
    else if m.payload.head? = some 4 then .leaveReceived m
    else .beaconReceived m

/-- What a receiver makes of the bits it has read from a start bit on: nothing yet, a message discarded for its length or its
CRC (R44), or a message handed on (R45). -/
def decodeFrame (bits : List Bool) : Option Instr :=
  match lengthRead bits with
  | none => none
  | some len =>
    if Config.maxPayload < len then some (.badCrc bits)
    else if bits.length < frameLength len then none
    else
      let covered := (bits.drop 1).take (25 + 8 * len)
      let m : Received :=
        { originator := Fin.ofNat 16 (fieldAt bits 3 4)
          seq := BitVec.ofNat 8 (fieldAt bits 7 8)
          attempt := BitVec.ofNat 3 (fieldAt bits 15 3)
          payload := groupBytes len (bits.drop 26) }
      if (crc16 covered).toNat = fieldAt bits (26 + 8 * len) 16 then
        some (receptionOf (MsgClass.ofCode (fieldAt bits 1 2)) m)
      else some (.badCrc bits)

/-- The attempt that carries a reception: its class and its fields, none for a command that is no reception. -/
def messageOf : Instr → Option (MsgClass × Received)
  | .voteReceived m => some (.vote, m)
  | .edgeReceived m => some (.edge, m)
  | .canvasReceived m => some (.canvas, m)
  | .beaconReceived m => some (.hello, m)
  | .joinReceived m => some (.hello, m)
  | .leaveReceived m => some (.hello, m)
  | .powerOn _ | .rstRisingEdge _ | .csFall _ | .unknownOpcode _ _ | .shortTransaction | .readStatus _ | .readEvents _
  | .readDivergence _ | .readPeer _ _ | .readWatch _ _ | .post _ | .clearEvents _ | .setMask _ | .setWatch _ _ _ _ _ _
  | .clearWatchHits _ | .setCursor _ _ | .writeOverlay _ _ | .writeOverlayPartialByte | .readOverlay _ _ | .editBegin
  | .editEnd | .setDisplay _ _ _ | .softReset | .contend _ | .selfDelivery | .ackFieldEnd _ | .mismatch | .transactionEnd
  | .badCrc _ | .breakSeen | .lineEnd | .listenTimerExpiry | .beaconTimerExpiry | .silenceTimeout _ | .barrierTimeout
  | .edgeTimeout | .rowEnd | .drawPlaneWrite | .copyComplete | .linePlaced | .endFieldUnsynced | .rstAsserted => none

/-- The wire bits of a reception, from the start bit to the last CRC bit (R40). -/
def encodeReception (i : Instr) : Option (List Bool) := (messageOf i).map fun p => frameBits p.1 p.2

end Sys2Proof
end

