-- ==== Sys2Proof/Machine/Operands.lean ====
section
/-! DEFINITION. The payloads a command carries, read from their bytes: op records (R15, R20, 11.4), HELLO payloads (R92,
11.5), EDGE payloads (R142, 11.6) and display settings (R154). -/

namespace Sys2Proof.Machine

/-- What a covered pixel becomes (R16). -/
inductive Ink where
  | set | clear | invert
  deriving DecidableEq, Repr

/-- How STRIP data bits act (R17). -/
inductive StripMode where
  | replace | or | clearWhereSet | xor
  deriving DecidableEq, Repr

/-- An op record in its fields (R15). -/
inductive Op where
  | fill (x y w h : Nat) (ink : Ink)
  | strip (x y : Nat) (mode : StripMode) (data : List Byte)
  | shift (direction : Direction) (k : Nat) (rotate : Bool)
  | present (copy : Bool)
  deriving DecidableEq, Repr

/-- The ink of a code (11.2). -/
def Ink.ofCode (c : Byte) : Option Ink :=
  if c = 0 then some .set else if c = 1 then some .clear else if c = 2 then some .invert else none

/-- The STRIP mode of a code (11.2). -/
def StripMode.ofCode (c : Byte) : Option StripMode :=
  if c = 0 then some .replace else if c = 1 then some .or else if c = 2 then some .clearWhereSet
  else if c = 3 then some .xor else none

/-- The direction of a code (11.2). -/
def Direction.ofCode (c : Byte) : Option Direction :=
  if c = 0 then some .left else if c = 1 then some .right else if c = 2 then some .up
  else if c = 3 then some .down else none

/-- The direction's code (11.2). -/
def Direction.code : Direction → Byte
  | .left => 0
  | .right => 1
  | .up => 2
  | .down => 3

/-- A two-valued code field: 0 or 1 (edge mode, PRESENT mode, 11.2). -/
def flagOfCode (c : Byte) : Option Bool := if c = 0 then some false else if c = 1 then some true else none

/-- A FILL's fields, when they pass R20. -/
def parseFill (g : Straps) (x y w h : Nat) (ink : Byte) : Option Op :=
  if x < g.canvasWidth ∧ y < g.canvasHeight ∧ 1 ≤ w ∧ w ≤ 576 ∧ 1 ≤ h ∧ h ≤ 192 then
    (Ink.ofCode ink).map (Op.fill x y w h)
  else none

/-- A STRIP's fields, when they pass R20 and exactly its n data bytes follow (R21). -/
def parseStrip (g : Straps) (x y : Nat) (mode : Byte) (n : Nat) (data : List Byte) : Option Op :=
  if x < g.canvasWidth ∧ y < g.canvasHeight ∧ 1 ≤ n ∧ n ≤ 64 ∧ data.length = n then
    (StripMode.ofCode mode).map fun m => Op.strip x y m data
  else none

/-- A SHIFT's fields, when they pass R20. -/
def parseShift (direction : Byte) (k : Nat) (edgeMode : Byte) : Option Op :=
  if 1 ≤ k ∧ k ≤ 8 then
    match Direction.ofCode direction, flagOfCode edgeMode with
    | some d, some r => some (.shift d k r)
    | _, _ => none
  else none

/-- The op record that bytes spell under a strap record, when it is valid and has the length its kind requires (R20, R21,
11.4); none for a malformed one. -/
def parseOp (g : Straps) : List Byte → Option Op
  | [] => none
  | kind :: rest =>
    if kind = 0x01 then
      match rest with
      | [x1, x0, y, w1, w0, h, ink] => parseFill g (be16 x1 x0).toNat y.toNat (be16 w1 w0).toNat h.toNat ink
      | _ => none
    else if kind = 0x02 then
      match rest with
      | x1 :: x0 :: y :: mode :: n :: data => parseStrip g (be16 x1 x0).toNat y.toNat mode n.toNat data
      | _ => none
    else if kind = 0x03 then
      match rest with
      | [direction, k, edgeMode] => parseShift direction k.toNat edgeMode
      | _ => none
    else if kind = 0x04 then
      match rest with
      | [mode] => (flagOfCode mode).map Op.present
      | _ => none
    else none

/-- Bytes spell a well-formed PRESENT. -/
def isPresent (g : Straps) (bytes : List Byte) : Bool :=
  match parseOp g bytes with
  | some (.present _) => true
  | _ => false

/-! ### HELLO -/

/-- A well-formed HELLO (R92). -/
inductive Hello where
  /-- A JOIN with its geometry byte and S, which its V equals. -/
  | join (geometry : Byte) (epoch : Epoch)
  /-- A BEACON with its geometry byte, S, V, C, digest and complete flag. -/
  | beacon (geometry : Byte) (epoch voted committed : Epoch) (digest : BitVec 32) (complete : Bool)
  /-- A LEAVE with its geometry byte. -/
  | leave (geometry : Byte)
  deriving DecidableEq, Repr

/-- The HELLO a payload spells; none for a malformed one (R92, 11.5). -/
def parseHello : List Byte → Option Hello
  | [] => none
  | state :: rest =>
    if state = 2 then
      match rest with
      | [g, s1, s0, v1, v0] => if be16 s1 s0 = be16 v1 v0 then some (.join g (be16 s1 s0)) else none
      | _ => none
    else if state = 3 then
      match rest with
      | [g, s1, s0, v1, v0, c1, c0, d3, d2, d1, d0, flags] =>
        some (.beacon g (be16 s1 s0) (be16 v1 v0) (be16 c1 c0) (be32 d3 d2 d1 d0) (flags.getLsbD 0))
      | _ => none
    else if state = 4 then
      match rest with
      | [g] => some (.leave g)
      | _ => none
    else none

/-- The geometry byte of a wall: W in bits 7..4, H in bits 3..0 (11.5). -/
def Straps.geometryByte (g : Straps) : Byte := BitVec.ofNat 4 g.w ++ BitVec.ofNat 4 g.h

/-- The payload of a HELLO (11.5). -/
def encodeHello : Hello → List Byte
  | .join g e => [2, g] ++ bytes16 e ++ bytes16 e
  | .beacon g e v c d complete =>
    [3, g] ++ bytes16 e ++ bytes16 v ++ bytes16 c ++ bytes32 d ++ [if complete then 1 else 0]
  | .leave g => [4, g]

/-! ### EDGE -/

/-- A SHIFT along a row of tiles. -/
def Direction.horizontal : Direction → Bool
  | .left | .right => true
  | .up | .down => false

/-- Strip bytes: 6k for a horizontal strip, 144 for a vertical one (R135). -/
def stripBytes (d : Direction) (k : Nat) : Nat := if d.horizontal then 6 * k else Config.tileColumns

/-- The bits of a vertical strip byte that carry strip rows: i < k (11.6). -/
def stripMask (k : Nat) : Byte := 0xFF >>> (8 - k)

/-- Strip data with its reserved bits, i ≥ k of a vertical strip, dropped (R188). -/
def cleanStrip (d : Direction) (k : Nat) (data : List Byte) : List Byte :=
  if d.horizontal then data else data.map (· &&& stripMask k)

/-- A well-formed EDGE payload: shift identity, direction, k, target, strip data (R142). -/
structure EdgePayload where
  originator : Station
  seq : Byte
  direction : Direction
  k : Nat
  target : Station
  data : List Byte
  deriving DecidableEq, Repr

/-- The EDGE that a payload spells, its reserved bits ignored; none when it is not well formed (R142, R188, 11.6). -/
def parseEdge : List Byte → Option EdgePayload
  | o :: s :: d :: k :: t :: data =>
    match Direction.ofCode d with
    | some dir =>
      if h : t.toNat < 16 then
        if 1 ≤ k.toNat ∧ k.toNat ≤ 8 ∧ data.length = stripBytes dir k.toNat then
          some
            { originator := (o.extractLsb' 0 4).toFin, seq := s, direction := dir, k := k.toNat, target := ⟨t.toNat, h⟩
              data := cleanStrip dir k.toNat data }
        else none
      else none
    | none => none
  | _ => none

/-- The payload of an EDGE, its reserved bits 0 (11.6, R188). -/
def encodeEdge (r : OutboxRecord) : List Byte :=
  [BitVec.ofNat 8 r.originator.val, r.seq, r.direction.code, BitVec.ofNat 8 r.k, BitVec.ofNat 8 r.target.val] ++ r.data

/-! ### Display settings -/

/-- The display mode of a code (11.2). -/
def DisplayMode.ofCode (c : Byte) : Option DisplayMode :=
  if c = 0 then some .off else if c = 1 then some .normal else if c = 2 then some .reverse
  else if c = 3 then some .allOn else none

/-- The combine of a code (11.2). -/
def Combine.ofCode (c : Byte) : Option Combine :=
  if c = 0 then some .none else if c = 1 then some .or else if c = 2 then some .xor else none

/-- The display settings that three parameter bytes name, when all three are in their values (R154). -/
def parseDisplay (mode combine contrast : Byte) : Option Display :=
  match DisplayMode.ofCode mode, Combine.ofCode combine with
  | some m, some c => if contrast.toNat ≤ 15 then some { mode := m, combine := c, contrast := contrast.toNat } else none
  | _, _ => none

end Sys2Proof.Machine
end

