-- ==== Sys2Proof/Machine/Draw.lean ====
section
/-! DEFINITION. The plane writes of the Raster Engine, one by one in their order: FILL, STRIP, the move and fill of a SHIFT,
and the copy of a SWAP_COPY (R6, R7, R26, R27, R137, R140), and the watch table's test of each (R164). -/

namespace Sys2Proof.Machine

/-- A plane write: the bits of one byte that the mask names take the value's bits, the others are kept (R6). A pixel write has
a mask of one bit. -/
structure PlaneWrite where
  address : Nat
  mask : Byte
  value : Byte
  deriving DecidableEq, Repr

/-- The byte after a write. -/
def PlaneWrite.result (w : PlaneWrite) (old : Byte) : Byte := (old &&& ~~~w.mask) ||| (w.value &&& w.mask)

/-- A plane after a write. -/
def Memory.apply (m : Memory) (w : PlaneWrite) : Memory := m.write w.address (w.result (m.read w.address))

/-! ### FILL and STRIP -/

/-- A pixel write at local column and row: set, clear or invert. -/
structure PixelWrite where
  column : Nat
  row : Nat
  act : Ink
  deriving DecidableEq, Repr

/-- A pixel write as the write of its byte; an inversion complements the value read at the moment of the write (R26, R27). -/
def PixelWrite.onPlane (p : PixelWrite) (m : Memory) : PlaneWrite :=
  let a := byteAddress (p.row / 8) p.column
  { address := a
    mask := BitVec.twoPow 8 (p.row % 8)
    value :=
      match p.act with
      | .set => 0xFF
      | .clear => 0
      | .invert => ~~~(m.read a) }

/-- A clipped range: its first value and how many follow, 0 when it is empty (R11). -/
def clipRange (first count low high limit : Nat) : Nat × Nat :=
  let lo := max first low
  let hi := min (first + count) (min (high + 1) limit)
  (lo, hi - lo)

/-- Columns of a rectangle's clipped part (R11). -/
def Straps.clipColumns (g : Straps) (x w : Nat) : Nat × Nat :=
  clipRange x w g.windowLeft (g.windowLeft + 143) g.canvasWidth

/-- Rows of a rectangle's clipped part (R11). -/
def Straps.clipRows (g : Straps) (y h : Nat) : Nat × Nat :=
  clipRange y h g.windowTop (g.windowTop + 47) g.canvasHeight

/-- How many pixel writes a FILL issues (R26). -/
def fillPixels (g : Straps) (x y w h : Nat) : Nat := (g.clipColumns x w).2 * (g.clipRows y h).2

/-- The i-th pixel write of a FILL: columns left to right, rows top to bottom in each (R26). -/
def fillPixel (g : Straps) (x y w h : Nat) (ink : Ink) (i : Nat) : PixelWrite :=
  let cols := g.clipColumns x w
  let rows := g.clipRows y h
  { column := cols.1 + i / rows.2 - g.windowLeft, row := rows.1 + i % rows.2 - g.windowTop, act := ink }

/-- What a STRIP data bit makes of its pixel, if anything (R17, R27). -/
def StripMode.act (m : StripMode) (bit : Bool) : Option Ink :=
  match m, bit with
  | .replace, true => some .set
  | .replace, false => some .clear
  | .or, true => some .set
  | .clearWhereSet, true => some .clear
  | .xor, true => some .invert
  | .or, false | .clearWhereSet, false | .xor, false => none

/-- The write of one STRIP bit, if clipping and mode leave one (R12, R27). -/
def stripBit (g : Straps) (x y : Nat) (mode : StripMode) (data : List Byte) (j i : Nat) : Option PixelWrite :=
  if g.keeps (x + j) (y + i) then
    (mode.act (((data[j]?).getD 0).getLsbD i)).map fun a =>
      { column := x + j - g.windowLeft, row := y + i - g.windowTop, act := a }
  else none

/-- The pixel writes of a STRIP: bytes in order, bits 0..7 in each (R27). -/
def stripPixels (g : Straps) (x y : Nat) (mode : StripMode) (data : List Byte) : List PixelWrite :=
  (List.range data.length).flatMap fun j => (List.range 8).filterMap fun i => stripBit g x y mode data j i

/-- How many pixel writes an op issues, 0 for the kinds that issue none of their own. -/
def Op.pixelCount (g : Straps) : Op → Nat
  | .fill x y w h _ => fillPixels g x y w h
  | .strip x y mode data => (stripPixels g x y mode data).length
  | .shift _ _ _ | .present _ => 0

/-- The i-th pixel write of an op (R26, R27). -/
def Op.pixelWrite (g : Straps) (i : Nat) : Op → Option PixelWrite
  | .fill x y w h ink => if i < fillPixels g x y w h then some (fillPixel g x y w h ink i) else none
  | .strip x y mode data => (stripPixels g x y mode data)[i]?
  | .shift _ _ _ | .present _ => none

/-! ### SHIFT -/

/-- Byte writes in each column of a vertical move: 6, or 5 when k = 8 (R137). -/
def moveBands (k : Nat) : Nat := if k < 8 then 6 else 5

/-- How many byte writes a move issues (R137). -/
def moveWrites (d : Direction) (k : Nat) : Nat :=
  if d.horizontal then (Config.tileColumns - k) * 6 else Config.tileColumns * moveBands k

/-- The i-th byte write of a move (R137). For DOWN with k = 8 the bands written are 5..1, those that receive moved content by
R18; R137's table names bands 4..0 there. DEDUCED, unsafe (log 7). -/
def moveWrite (d : Direction) (k : Nat) (m : Memory) (i : Nat) : PlaneWrite :=
  match d with
  | .left =>
    { address := byteAddress (i % 6) (i / 6), mask := 0xFF, value := m.read (byteAddress (i % 6) (i / 6 + k)) }
  | .right =>
    { address := byteAddress (i % 6) (143 - i / 6), mask := 0xFF
      value := m.read (byteAddress (i % 6) (143 - i / 6 - k)) }
  | .up =>
    let c := i / moveBands k
    let b := i % moveBands k
    { address := byteAddress b c
      mask := if b = 5 then stripMask (8 - k) else 0xFF
      value := (m.read (byteAddress b c) >>> k) ||| (m.read (byteAddress (b + 1) c) <<< (8 - k)) }
  | .down =>
    let c := i / moveBands k
    let b := 5 - i % moveBands k
    { address := byteAddress b c
      mask := if b = 0 then ~~~(stripMask k) else 0xFF
      value := (m.read (byteAddress b c) <<< k) ||| (m.read (byteAddress (b - 1) c) >>> (8 - k)) }

/-- How many byte writes a fill issues (R140). -/
def fillWrites (d : Direction) (k : Nat) : Nat := if d.horizontal then k * 6 else Config.tileColumns

/-- The i-th byte write of a fill, from strip data as an EDGE carries it; absent data is 0 (R135, R140). -/
def fillWrite (d : Direction) (k : Nat) (data : List Byte) (i : Nat) : PlaneWrite :=
  let v := (data[i]?).getD 0
  match d with
  | .left => { address := byteAddress (i % 6) (144 - k + i / 6), mask := 0xFF, value := v }
  | .right => { address := byteAddress (i % 6) (i / 6), mask := 0xFF, value := v }
  | .up => { address := byteAddress 5 i, mask := ~~~(stripMask (8 - k)), value := v <<< (8 - k) }
  | .down => { address := byteAddress 0 i, mask := stripMask k, value := v }

/-- The leading strip of a plane, packed as an EDGE carries it (R135, R136, 11.6). -/
def captureStrip (d : Direction) (k : Nat) (m : Memory) : List Byte :=
  match d with
  | .left => (List.range (6 * k)).map fun i => m.read (byteAddress (i % 6) (i / 6))
  | .right => (List.range (6 * k)).map fun i => m.read (byteAddress (i % 6) (144 - k + i / 6))
  | .up => (List.range Config.tileColumns).map fun c => m.read (byteAddress 0 c) &&& stripMask k
  | .down => (List.range Config.tileColumns).map fun c => m.read (byteAddress 5 c) >>> (8 - k)

/-! ### Watch and write -/

/-- The canvas pixel of bit i of a byte address (R4). -/
def Straps.canvasPixel (g : Straps) (address i : Nat) : Nat × Nat :=
  (g.windowLeft + address % Config.tileColumns, g.windowTop + 8 * (address / Config.tileColumns) + i)

/-- The rectangle of a watch entry holds a canvas pixel (R162). -/
def WatchEntry.holds (w : WatchEntry) (x y : Nat) : Bool := decide (w.x0 ≤ x ∧ x ≤ w.x1 ∧ w.y0 ≤ y ∧ y ≤ w.y1)

/-- A write hits an entry: it is enabled, and a pixel the write sets lies in its rectangle (R164). -/
def WatchEntry.hitBy (w : WatchEntry) (g : Straps) (p : PlaneWrite) : Bool :=
  w.enabled && (List.range 8).any fun i =>
    p.mask.getLsbD i && w.holds (g.canvasPixel p.address i).1 (g.canvasPixel p.address i).2

/-- A write that hits an entry whose hit is clear sets it and records the first hit (R164). -/
def WatchEntry.present (w : WatchEntry) (g : Straps) (p : PlaneWrite) (id : Station × Byte) : WatchEntry :=
  if w.hitBy g p && w.firstHit.isNone then { w with firstHit := some id } else w

/-- A presented write: the watch table is told, and WATCH is raised when a hit goes from clear to set (R32, R164). -/
def State.presentWrite (s : State) (p : PlaneWrite) (id : Station × Byte) : State :=
  State.raiseIf { s with watch := s.watch.map fun w : WatchEntry => w.present s.straps p id }
    (s.watch.any fun w : WatchEntry => w.hitBy s.straps p && w.firstHit.isNone) .watch

/-- A write of the record in progress lands on the draw plane and is presented (R6, R32). -/
def State.drawWrite (s : State) (p : PlaneWrite) (id : Station × Byte) : State :=
  (s.setDrawPlane (s.drawPlane.apply p)).presentWrite p id

/-- The next write of a copy: the shown byte at the next place of plane order, not presented (R124). -/
def State.copyWrite (s : State) : State :=
  let s' := s.setDrawPlane (s.drawPlane.write s.raster.issued (s.shownPlane.read s.raster.issued))
  { s' with raster := { s'.raster with issued := s'.raster.issued + 1 } }

/-- A run of copy writes. -/
def State.copyWrites : Nat → State → State
  | 0, s => s
  | n + 1, s => State.copyWrites n s.copyWrite

end Sys2Proof.Machine
end

