-- ==== Sys2Proof/Machine/EdgeUnit.lean ====
section
/-! DEFINITION. The Edge Unit: neighbours, capture, the outbox check, the fill decision and the judgement of a strip
(chapter 7, and R57 of chapter 3). -/

namespace Sys2Proof.Machine

/-- The station of a tile at tile column c, tile row r (R135). -/
def Straps.stationAt (g : Straps) (c r : Nat) : Nat := r * g.w + c

/-- The neighbour one tile left (R135): none at the left edge in BLANK, the rightmost tile in ROTATE. -/
def Straps.leftOf (g : Straps) (rotate : Bool) : Option Nat :=
  if g.tileColumn = 0 then (if rotate then some (g.stationAt (g.w - 1) g.tileRow) else none)
  else some (g.stationAt (g.tileColumn - 1) g.tileRow)

/-- The neighbour one tile right (R135). -/
def Straps.rightOf (g : Straps) (rotate : Bool) : Option Nat :=
  if g.tileColumn + 1 = g.w then (if rotate then some (g.stationAt 0 g.tileRow) else none)
  else some (g.stationAt (g.tileColumn + 1) g.tileRow)

/-- The neighbour one tile up (R135). -/
def Straps.above (g : Straps) (rotate : Bool) : Option Nat :=
  if g.tileRow = 0 then (if rotate then some (g.stationAt g.tileColumn (g.h - 1)) else none)
  else some (g.stationAt g.tileColumn (g.tileRow - 1))

/-- The neighbour one tile down (R135). -/
def Straps.below (g : Straps) (rotate : Bool) : Option Nat :=
  if g.tileRow + 1 = g.h then (if rotate then some (g.stationAt g.tileColumn 0) else none)
  else some (g.stationAt g.tileColumn (g.tileRow + 1))

/-- The target of a SHIFT's leading strip (R135). -/
def Straps.target (g : Straps) (d : Direction) (rotate : Bool) : Option Nat :=
  match d with
  | .left => g.leftOf rotate
  | .right => g.rightOf rotate
  | .up => g.above rotate
  | .down => g.below rotate

/-- The source of a SHIFT's trailing strip (R135). -/
def Straps.source (g : Straps) (d : Direction) (rotate : Bool) : Option Nat :=
  match d with
  | .left => g.rightOf rotate
  | .right => g.leftOf rotate
  | .up => g.below rotate
  | .down => g.above rotate

/-- The shift in progress changed. -/
def State.setShift (s : State) (x : Option Shift) : State := { s with edge := { s.edge with shift := x } }

/-- The edge outbox changed. -/
def State.setOutbox (s : State) (l : List OutboxRecord) : State := { s with edge := { s.edge with outbox := l } }

/-- The edge inbox changed. -/
def State.setInbox (s : State) (l : List InboxEntry) : State := { s with edge := { s.edge with inbox := l } }

/-- The engine state and the writes issued of the run in progress. -/
def State.setEngine (s : State) (e : EngineState) (issued : Nat) : State :=
  { s with raster := { s.raster with engine := e, issued := issued } }

/-- An outbox record is eligible: the station is MEMBER and the target is in the roster (R56). -/
def State.edgeEligible (s : State) (r : OutboxRecord) : Bool := s.isMember && s.inRoster r.target

/-- A transaction of the outbox head is in progress (R57). -/
def State.sendingEdge (s : State) : Bool :=
  match s.bus.tx with
  | some t =>
    match t.owner with
    | .edge _ => true
    | .vote _ | .canvas | .beacon | .join | .leave => false
  | none => false

/-- Ineligible records at the head of the outbox are discarded with EDGE_LOST, unless the head is being sent (R57). -/
def State.discardIneligible (s : State) : State :=
  if s.sendingEdge then s
  else
    let kept := s.edge.outbox.dropWhile fun r => !s.edgeEligible r
    (s.setOutbox kept).raiseIf (decide (kept.length < s.edge.outbox.length)) .edgeLost

/-- The capture of a shift in step CAPTURE, when it can be made now (R136). -/
def State.tryCapture (s : State) : State :=
  match s.edge.shift with
  | some x =>
    if x.step = .capture then
      match s.straps.target x.direction x.rotate with
      | none => s.setShift (some { x with step := .move })
      | some t =>
        let strip := captureStrip x.direction x.k s.drawPlane
        if t = s.straps.n.val then s.setShift (some { x with step := .move, strip := some strip })
        else if s.edge.outbox.length < Config.outboxPlaces then
          (s.setOutbox
            (s.edge.outbox ++
              [{ originator := x.originator, seq := x.seq, direction := x.direction, k := x.k, target := Fin.ofNat 16 t
                 data := strip }])).setShift (some { x with step := .move })
        else s
    else s
  | none => s

/-- The outbox check (R57): the head is checked, a freed place lets a waiting capture be made (R136), and the record that
becomes the head is checked in turn. -/
def State.recheckOutbox (s : State) : State := s.discardIneligible.tryCapture.discardIneligible

/-- The inbox entry of a shift: its identity, direction and k (R138). -/
def InboxEntry.fits (e : InboxEntry) (x : Shift) : Bool :=
  decide (e.originator = x.originator ∧ e.seq = x.seq ∧ e.direction = x.direction ∧ e.k = x.k)

/-- The fill of a shift begins, from a strip or with 0 (R138, R139). -/
def State.startFill (s : State) (x : Shift) (strip : Option (List Byte)) : State :=
  let s := (s.setShift (some { x with step := .fill, strip := strip })).setEngine .applying 0
  { s with edge := { s.edge with timer := none } }

/-- The fill decision at the move's last write (R138). -/
def State.decideFill (s : State) (x : Shift) : State :=
  match s.straps.source x.direction x.rotate with
  | none => s.startFill x none
  | some _ =>
    match x.strip with
    | some d => s.startFill x (some d)
    | none =>
      match s.edge.inbox.find? (·.fits x) with
      | some e => (s.setInbox (s.edge.inbox.filter fun f => !f.fits x)).startFill x (some e.data)
      | none =>
        if s.isMember then
          let s := (s.setShift (some { x with step := .await })).setEngine .awaitEdge 0
          { s with edge := { s.edge with timer := some 0 } }
        else (s.startFill x none).raise .edgeTimeout

/-- The wait in step AWAIT ends without a strip: a fill with 0 and EDGE_TIMEOUT (R139). -/
def State.endEdgeWait (s : State) : State :=
  match s.edge.shift with
  | some x => if x.step = .await then (s.startFill x none).raise .edgeTimeout else s
  | none => s

/-- Inbox entries that a completion of (o, q) leaves: those of other originators and those after q (R144). -/
def purgeInbox (l : List InboxEntry) (o : Station) (q : Byte) : List InboxEntry :=
  l.filter fun e => decide (e.originator ≠ o) || seqAfter e.seq q

/-- What becomes of a strip for this station, and whether it is acked (R143). -/
inductive StripVerdict where
  /-- Discarded, acked or not. -/
  | discard (ack : Bool)
  /-- Taken for the shift in step AWAIT: the fill starts with it. -/
  | fillNow
  /-- Held as the fill strip of the shift in step CAPTURE or MOVE. -/
  | hold
  /-- Stored in the inbox. -/
  | store
  deriving DecidableEq, Repr

/-- The strip carries the identity of the shift in progress. -/
def EdgePayload.isFor (p : EdgePayload) (x : Shift) : Bool := decide (p.originator = x.originator ∧ p.seq = x.seq)

/-- An inbox entry has the strip's identity (R143). -/
def EdgePayload.sameAs (p : EdgePayload) (e : InboxEntry) : Bool := decide (e.originator = p.originator ∧ e.seq = p.seq)

/-- The last cases of R143: by the inbox. -/
def State.judgeByInbox (s : State) (p : EdgePayload) : StripVerdict :=
  match s.edge.inbox.find? p.sameAs with
  | some e => .discard (decide (e.direction = p.direction ∧ e.k = p.k))
  | none => if s.edge.inbox.length < Config.inboxPlaces then .store else .discard false

/-- The judgement of a strip for this station, the first case of R143 that applies. -/
def State.judgeStrip (s : State) (p : EdgePayload) : StripVerdict :=
  let stale :=
    match (s.peer p.originator).applied with
    | some a => !seqAfter p.seq a
    | none => false
  if stale then .discard true
  else
    match s.edge.shift with
    | some x =>
      if p.isFor x then
        if x.direction ≠ p.direction ∨ x.k ≠ p.k then .discard false
        else if x.strip.isSome ∨ x.step = .fill then .discard true
        else if x.step = .await then .fillNow
        else if (s.edge.inbox.find? p.sameAs).isNone then .hold
        else s.judgeByInbox p
      else s.judgeByInbox p
    | none => s.judgeByInbox p

/-- A strip judged and dealt with, but for its ack (R143). -/
def State.takeStrip (s : State) (p : EdgePayload) : State :=
  match s.judgeStrip p, s.edge.shift with
  | .fillNow, some x => s.startFill x (some p.data)
  | .hold, some x => s.setShift (some { x with strip := some p.data })
  | .store, _ =>
    s.setInbox
      (s.edge.inbox ++
        [{ originator := p.originator, seq := p.seq, direction := p.direction, k := p.k, data := p.data }])
  | .discard _, _ | .fillNow, none | .hold, none => s

/-- Whether a strip is acked (R143). -/
def StripVerdict.acks : StripVerdict → Bool
  | .discard ack => ack
  | .fillNow | .hold | .store => true

end Sys2Proof.Machine
end

