-- ==== Sys2Proof/Machine/Scan.lean ====
section
/-! DEFINITION. The Scan Generator: row starts, frame starts and the output of a row (chapter 8). -/

namespace Sys2Proof.Machine

/-- The shown pixel and the overlay pixel combined (R151). -/
def Combine.pixel (c : Combine) (shown overlay : Bool) : Bool :=
  match c with
  | .none => shown
  | .or => shown || overlay
  | .xor => shown != overlay

/-- Whether a pixel is driven lit, in a mode that selects rows (R152). -/
def DisplayMode.lit (m : DisplayMode) (p : Bool) : Bool :=
  match m with
  | .off => false
  | .normal => p
  | .reverse => !p
  | .allOn => true

/-- The output of row r as the planes and the display settings stand (R149, R151, R152, R153). -/
def State.formRow (s : State) (r : Nat) : RowOutput :=
  let d := s.port.display
  match d.mode with
  | .off => .notSelected
  | m =>
    .driven r
      ((List.range Config.tileColumns).map fun c =>
        m.lit (d.combine.pixel (Memory.pixel s.shownPlane c r) (Memory.pixel s.port.overlay c r)))
      (17 + d.contrast)

/-- Row r starts (R148, R149). `late` is how far the row timer stands past the start: 0 at the start itself. -/
def State.startRow (s : State) (r late : Nat) : State :=
  { s with scan := { row := r, timer := some late, out := s.formRow r } }

/-- A frame start: row 0, and FRAME (R148). -/
def State.startFrame (s : State) (late : Nat) : State := (s.startRow 0 late).raise .frame

/-- The end of the row in progress: the next row, or a new frame after row 47 (R148). The row ended when its timer reached one row
time; what the timer counted past that within the bit time belongs to the row that starts, so rows keep their time (log 16). -/
def State.endRow (s : State) : State :=
  let late := s.scan.timer.getD 0 - Config.rowLimit
  if s.scan.row < 47 then s.startRow (s.scan.row + 1) late else s.startFrame late

end Sys2Proof.Machine
end

