-- ==== Sys2Proof/Machine/Engine.lean ====
section
/-! DEFINITION. The Raster Engine's take and completion, the digest, and the Barrier Unit's commit (chapters 2 and 6). They are
one file because each leads to the next: a completion takes the next record, a PRESENT may commit at its take, and a commit
completes. -/

namespace Sys2Proof.Machine

/-! ### Digest -/

/-- Bytes taken two at a time as 16-bit words, an odd last byte padded with 0 (R125). -/
def pairWords : List Byte → List Half
  | [] => []
  | [a] => [be16 a 0]
  | a :: b :: rest => be16 a b :: pairWords rest

/-- The words a record is presented as (R125). -/
def digestWords (r : InRecord) : List Half :=
  be16 (BitVec.ofNat 8 r.originator.val) r.seq :: pairWords r.bytes

/-- One word folded: D × 31 + w modulo 2^32 (R125). -/
def foldWord (d : BitVec 32) (w : Half) : BitVec 32 := d * 31 + w.setWidth 32

/-- A record folded into D (R125). -/
def foldRecord (d : BitVec 32) (r : InRecord) : BitVec 32 := (digestWords r).foldl foldWord d

/-- An entry appended to the history, the oldest removed when it held 4 (R126). -/
def appendHistory (l : List HistoryEntry) (e : HistoryEntry) : List HistoryEntry :=
  (if Config.historyPlaces ≤ l.length then l.drop 1 else l) ++ [e]

/-- The most recently appended entry with an epoch (R126). -/
def lookupHistory (l : List HistoryEntry) (t : Epoch) : Option HistoryEntry := l.reverse.find? fun e => e.epoch = t

/-- The digest for a PRESENT's tag recorded: entry, D back to 0, mark whole (R126). -/
def State.recordDigest (s : State) (t : Epoch) : State :=
  { s with
    raster :=
      { s.raster with
        history :=
          appendHistory s.raster.history
            { epoch := t, digest := s.raster.digest, complete := decide (s.raster.mark = .wholePicture) }
        digest := 0
        mark := .wholePicture } }

/-! ### Completion -/

/-- A LEAVE becomes pending when the station is OUT_OF_STEP with an empty inbound queue (R80, R101). -/
def State.leaveIfDrained (s : State) : State :=
  if s.members.station = .outOfStep ∧ s.stream.inbound = [] then
    { s with members := { s.members with hello := some .leave } }
  else s

/-- The completion of the head record (R31, R140, R144): A of its originator, the record removed, the engine IDLE, no shift in
progress, stale inbox entries purged; the take of the next record is `settle`. -/
def State.complete (s : State) : State :=
  match s.stream.inbound with
  | [] => s
  | r :: rest =>
    let s := s.setPeer r.originator fun p => { p with applied := some r.seq }
    let s := { s with stream := { s.stream with inbound := rest } }
    let s := (s.setEngine .idle 0).setShift none
    (s.setInbox (purgeInbox s.edge.inbox r.originator r.seq)).leaveIfDrained

/-! ### Commit -/

/-- The head record is a PRESENT with mode SWAP_COPY. -/
def State.headCopies (s : State) : Bool :=
  match s.stream.inbound with
  | r :: _ =>
    match parseOp s.straps r.bytes with
    | some (.present copy) => copy
    | _ => false
  | [] => false

/-- The commit of a barrier for t (R123) but for the take of the next record: roles exchanged, C := t, the frame restarted
with FRAME (R150), COMMIT, the barrier ended, and the PRESENT completed or the copy started (R124). -/
def State.commitFor (s : State) (t : Epoch) : State :=
  let s :=
    { s with
      barrier := { s.barrier with shown := s.barrier.shown.other, committed := t, timer := none, pending := none } }
  let s := (s.startFrame 0).raise .commit
  if s.headCopies then s.setEngine .copying 0 else s.complete

/-! ### Take -/

/-- A SHIFT handed to the Edge Unit: step CAPTURE, no fill strip, and its capture as soon as it can be made (R29, R132,
R136). A record appended to an empty outbox is its head, and is checked at that instant; a head that stands there already is not
(R57). -/
def State.beginShift (s : State) (r : InRecord) (d : Direction) (k : Nat) (rotate : Bool) : State :=
  let t :=
    ((s.setShift
        (some
          { originator := r.originator, seq := r.seq, direction := d, k := k, rotate := rotate, step := .capture
            strip := none })).setEngine .applying 0).tryCapture
  if s.edge.outbox = [] then t.discardIneligible else t

/-- A well-formed PRESENT taken: its digest recorded, AWAIT_BARRIER, and the tag handed to the Barrier Unit, which votes and
waits in MEMBER and commits at once otherwise (R30, R114). C is compared with no tag: it can be at or after the tag awaited where a BEACON
has set S while C was kept or 0 (R82, R130), though R131 has it before that tag. DESIGN CHOICE, unsafe (log 28). -/
def State.beginPresent (s : State) (t : Epoch) : State :=
  let s := (s.recordDigest t).setEngine .awaitBarrier 0
  if s.isMember then
    { s with barrier := { s.barrier with pending := some t, slot := some t, timer := some 0 } }
  else { s with barrier := { s.barrier with pending := some t } }.commitFor t

/-- The start of the head record: the digest first (R24), then by its kind (R25). A record that needs no work completes at
once (R26, R27, R28). -/
def State.take (s : State) (r : InRecord) : State :=
  let s := { s with raster := { s.raster with digest := foldRecord s.raster.digest r } }
  if r.malformed then s.complete
  else
    match parseOp s.straps r.bytes with
    | none => s.complete
    | some (.shift d k rotate) => s.beginShift r d k rotate
    | some (.present _) => s.beginPresent (r.tag.getD s.stream.epoch)
    | some op => if op.pixelCount s.straps = 0 then s.complete else s.setEngine .applying 0

/-- The engine takes records while it is IDLE and the queue holds one; each take that ends at once frees the next (R24, R31).
`fuel` bounds the takes; the queue's length is enough. -/
def State.settleFor : Nat → State → State
  | 0, s => s
  | fuel + 1, s =>
    if s.raster.engine = .idle then
      match s.stream.inbound with
      | [] => s
      | r :: _ => State.settleFor fuel (s.take r)
    else s

/-- The engine takes what it can take now. -/
def State.settle (s : State) : State := State.settleFor s.stream.inbound.length s

/-- The pending barrier, if any, commits, and the engine goes on (R123). -/
def State.commitNow (s : State) : State :=
  match s.barrier.pending with
  | some t => (s.commitFor t).settle
  | none => s

/-- The commit condition for t: V and every roster peer's voted epoch have reached t (R119). -/
def State.commitReady (s : State) (t : Epoch) : Bool :=
  epochAtOrAfter s.barrier.voted t && s.roster.all fun n => votedFor (s.peer n).voted t

/-- The condition evaluated, and the commit made if it holds (R119). -/
def State.evaluateCommit (s : State) : State :=
  match s.barrier.pending with
  | some t => if s.commitReady t then s.commitNow else s
  | none => s

/-- The roster changed: the outbox head is checked and the commit condition evaluated (R57, R89, R119). -/
def State.rosterChanged (s : State) : State := s.recheckOutbox.evaluateCommit

/-! ### The writes of the record in progress -/

/-- The record in progress completes and the engine takes the next. -/
def State.finishRecord (s : State) : State := s.complete.settle

/-- One more write of the run in progress has been issued. -/
def State.countWrite (s : State) : State :=
  { s with raster := { s.raster with issued := s.raster.issued + 1 } }

/-- The next write of a FILL or STRIP, and the completion at its last (R26, R27, R31). -/
def State.drawPixel (s : State) (r : InRecord) : State :=
  match parseOp s.straps r.bytes with
  | some op =>
    match op.pixelWrite s.straps s.raster.issued with
    | some p =>
      let s' := (s.drawWrite (p.onPlane s.drawPlane) (r.originator, r.seq)).countWrite
      if op.pixelCount s.straps ≤ s'.raster.issued then s'.finishRecord else s'
    | none => s
  | none => s

/-- The next write of a move, and the fill decision at its last (R137, R138). -/
def State.drawMove (s : State) (x : Shift) : State :=
  let s' := (s.drawWrite (moveWrite x.direction x.k s.drawPlane s.raster.issued) (x.originator, x.seq)).countWrite
  if moveWrites x.direction x.k ≤ s'.raster.issued then s'.decideFill x else s'

/-- The next write of a fill, and the completion at its last (R140). -/
def State.drawFill (s : State) (x : Shift) : State :=
  let s' :=
    (s.drawWrite (fillWrite x.direction x.k (x.strip.getD []) s.raster.issued) (x.originator, x.seq)).countWrite
  if fillWrites x.direction x.k ≤ s'.raster.issued then s'.finishRecord else s'

/-- The next write of the record in progress, when the engine is APPLYING and has one to issue (R26, R27, R137, R140). A SHIFT
that waits for outbox room has none (R136). -/
def State.drawNext (s : State) : State :=
  if s.raster.engine = .applying then
    match s.edge.shift, s.stream.inbound with
    | some x, _ =>
      match x.step with
      | .move => s.drawMove x
      | .fill => s.drawFill x
      | .capture | .await => s
    | none, r :: _ => s.drawPixel r
    | none, [] => s
  else s

/-- Whether a write waits to be issued. -/
def State.writeWaits (s : State) : Bool :=
  decide (s.raster.engine = .applying)
    && (match s.edge.shift with
      | some x => decide (x.step = .move ∨ x.step = .fill)
      | none => true)

/-- The copy runs to its 864th write, the PRESENT completes and the engine goes on (R124). -/
def State.finishCopy (s : State) : State :=
  if s.raster.engine = .copying then (State.copyWrites (Config.planeBytes - s.raster.issued) s).finishRecord else s

end Sys2Proof.Machine
end

