-- ==== Sys2Proof/Machine/Station.lean ====
section
/-! DEFINITION. The Membership Unit: the changes of the station state and of the peer entries (chapter 5). -/

namespace Sys2Proof.Machine

/-- The station state changed, with the Membership Unit's timers and pending HELLO. -/
def State.setStation (s : State) (st : StationState) (listen beacon : Option Nat) (hello : Option HelloKind) : State :=
  { s with
    members := { s.members with station := st, listenTimer := listen, beaconTimer := beacon, hello := hello } }

/-- The pending barrier and the waiting shift end when the station leaves MEMBER (R35): the outbox is discarded (R57, R145), a
wait in AWAIT ends with a fill of 0 (R139), and a pending barrier commits unaligned (R121). -/
def State.abandonWaits (s : State) : State := s.recheckOutbox.endEdgeWait.commitNow

/-- The entry into OUT_OF_STEP at a gap (R69, R101): CANVAS_LOST, the beacon timer stopped and a pending BEACON withdrawn, the
waits ended, and a LEAVE pending as soon as the inbound queue is empty (R80). -/
def State.enterOutOfStep (s : State) : State :=
  ((s.setStation .outOfStep none none none).raise .canvasLost).abandonWaits.leaveIfDrained

/-- The entry into BUS_FAULT (R61, R106): BUS_FAULT, the listen, beacon and silence timers stopped, entries and pending HELLO
kept, a pending ack slot not driven, and the waits ended. -/
def State.enterBusFault (s : State) : State :=
  let s := (s.setStation .busFault none none s.members.hello).raise .busFault
  let s := s.mapPeers fun p => { p with silence := none }
  State.abandonWaits { s with bus := { s.bus with framing := { s.bus.framing with ackDue := false } } }

/-- A peer entry's part in the entry into LISTENING: MEMBER becomes ABSENT, the silence timer stops, E becomes absent (R65,
R91), while A is kept (R33). E is learned anew, so A of a later SHIFT's originator can be absent or not before the SHIFT's sequence,
though R147 has it before. DESIGN CHOICE, unsafe (log 30). -/
def Peer.forget (p : Peer) : Peer :=
  { p with
    state := if p.state = .member then .absent else p.state
    silence := none
    expected := none }

/-- The entry into LISTENING at the end of the own LEAVE (R91, R102, R144); the change of station state and roster is told (R57,
R85, R89). -/
def State.enterListening (s : State) : State :=
  (((s.setStation .listening (some 0) none none).mapPeers Peer.forget).setInbox []).rosterChanged

/-- A peer entry made DROPPED, its silence timer stopped (R90, R104). -/
def Peer.drop (p : Peer) : Peer := { p with state := .dropped, silence := none }

/-- The roster peers outside an acked set (R53, R104). -/
def State.nonAckers (s : State) (acked : List Station) : List Station := s.roster.filter fun n => !acked.contains n

/-- Several entries made DROPPED, PEER_LEFT raised once if any was (R95, R104). -/
def State.dropPeers (s : State) (gone : List Station) : State :=
  State.raiseIf (gone.foldl (fun s n => s.setPeer n Peer.drop) s) (!gone.isEmpty) .peerLeft

/-- The entry into MEMBER at the end of the own JOIN (R95, R115, R126): candidates that did not ack dropped, the beacon timer
at 0, V := S, the VOTE slot empty, the picture mark partial, JOINED; the change of station state and roster is told (R85,
R89). -/
def State.enterMember (s : State) (acked : List Station) : State :=
  let s := s.dropPeers (s.nonAckers acked)
  let s := s.setStation .member none (some 0) none
  let s := { s with barrier := { s.barrier with voted := s.stream.epoch, slot := none } }
  let s := { s with raster := { s.raster with mark := .partialPicture } }
  (s.raise .joined).rosterChanged

/-- A peer entry that leaves MEMBER for a state: the silence timer stops, PEER_LEFT is raised and the roster change told
(R88, R89). An entry that is not MEMBER only changes its state. -/
def State.removePeer (s : State) (n : Station) (dest : PeerState) : State :=
  let was := s.inRoster n
  let s := s.setPeer n fun p => { p with state := dest, silence := none }
  if was then (s.raise .peerLeft).rosterChanged else s

/-- A MEMBER entry's silence timer back at 0 (R90). -/
def Peer.heard (p : Peer) : Peer := if p.state = .member then { p with silence := some 0 } else p

/-- A message of a peer was handed on: its silence timer restarts (R90). -/
def State.restartSilence (s : State) (n : Station) : State := s.setPeer n Peer.heard

/-- A peer entry in MEMBER from now on, its silence timer at 0 (R93, R96). -/
def Peer.asMember (p : Peer) : Peer := { p with state := .member, silence := some 0 }

/-- E of an entry (R65). -/
def State.setExpected (s : State) (n : Station) (e : Byte) : State :=
  s.setPeer n fun p => { p with expected := some e }

/-- The gap check of R70: E is present and the seq field is not E−1. -/
def State.showsGap (s : State) (n : Station) (q : Byte) : Bool :=
  match (s.peer n).expected with
  | some e => decide (q ≠ e - 1)
  | none => false

/-- An observed gap restarts the listen period in LISTENING (R94). -/
def State.reportGap (s : State) : State :=
  if s.members.station = .listening then
    { s with members := { s.members with listenTimer := some 0 } }
  else s

/-- The observation of a message of any class but CANVAS and JOIN: E becomes f + 1, which it is already when f = E−1 (R71). -/
def State.observeOther (s : State) (n : Station) (q : Byte) : State :=
  if s.showsGap n q then (s.setExpected n (q + 1)).reportGap else s.setExpected n (q + 1)

/-- A voted epoch taken from a message, to be written at the line end (R117). -/
def State.holdVote (s : State) (n : Station) (t : Epoch) : State :=
  { s with barrier := { s.barrier with pendingVote := some (n, t) } }

/-- The ack decided at the end of the CRC field (R46). -/
def State.decideAck (s : State) : State :=
  { s with bus := { s.bus with framing := { s.bus.framing with ackDue := true } } }

end Sys2Proof.Machine
end

