-- ==== Sys2Proof/Machine/Line.lean ====
section
/-! DEFINITION. The Tile Bus as one station sees it: framing stages (R42), the line end (R117), the transmit arbiter (R55,
R56), and the held-bus transaction up to its outcome (chapter 3). -/

namespace Sys2Proof.Machine

/-! ### Framing -/

/-- The framing changed. -/
def State.setFraming (s : State) (f : Framing) : State := { s with bus := { s.bus with framing := f } }

/-- The transaction changed. -/
def State.setTx (s : State) (t : Option Txn) : State := { s with bus := { s.bus with tx := t } }

/-- The station is transmitting: a transaction, or a soft reset's break, is on the line. -/
def State.transmitting (s : State) : Bool := s.bus.tx.isSome

/-- What a station reads in one bit time (R39). -/
inductive LineBit where
  /-- Nobody drives the line. -/
  | released
  /-- A bit of a message, with the value it carries under the line coding. -/
  | coded (zero : Bool)
  /-- The line held dominant outside a message's bits: an ack slot, or a break. -/
  | held
  deriving DecidableEq, Repr

/-- The bit reads 0. -/
def LineBit.readsZero : LineBit → Bool
  | .released => false
  | .coded zero => zero
  | .held => true

/-- The bit outside a message's fields, where no line coding turns it: the line is dominant when it reads 0 (R39). -/
def LineBit.bare (b : LineBit) : LineBit := if b.readsZero then .held else .released

/-- Whether the line is dominant through a bit time. A message's bit of value 0 is dominant and one of value 1 recessive, but the
line coding lets neither run past 8 bit times: there it turns the level. Where it turns one, the spec does not say; the model turns
it only where the bound of R39 makes it. DESIGN CHOICE, unsafe (log 26). -/
def Framing.dominantFor (f : Framing) : LineBit → Bool
  | .released => false
  | .coded true => decide (f.domRun < Config.codedRun)
  | .coded false => decide (Config.codedRun ≤ f.recRun)
  | .held => true

/-- The run counts after a bit time (R42). -/
def Framing.count (f : Framing) (b : LineBit) : Framing :=
  if f.dominantFor b then { f with domRun := f.domRun + 1, recRun := 0 } else { f with recRun := f.recRun + 1, domRun := 0 }

/-- The run counts after an ack slot: the dominant run leaves it out (R42). -/
def Framing.countSlot (f : Framing) (b : LineBit) : Framing :=
  if f.dominantFor b then { f with recRun := 0 } else { f with recRun := f.recRun + 1 }

/-- The stage enters IDLE with a gap count and a required gap (R42, R48). -/
def Framing.toIdle (f : Framing) (gap required : Nat) : Framing :=
  { f with stage := .idle, gap := gap, requiredGap := required, position := 0, bits := [], ackDue := false }

/-- The stage enters BREAK (R43). -/
def Framing.toBreak (f : Framing) : Framing :=
  { f with
    stage := .break, gap := 0, requiredGap := Config.idleGap, position := 0, bits := [], ackDue := false }

/-- A start bit: the stage enters FRAME, and the dominant run starts with it (R42). -/
def Framing.startBit : Framing := { Framing.reset with stage := .frame, bits := [false], domRun := 1 }

/-- UNSYNCED with both run counts 0 (R42, R44, R60). -/
def Framing.lost : Framing := Framing.reset

/-- UNSYNCED after a dominant bit in the end field, which counts as the first of a dominant run (R42). -/
def Framing.lostDominant : Framing := { Framing.reset with domRun := 1 }

/-- One bit time of R42's table; that FRAME becomes ACK after the last CRC bit is the reader's or the sender's to say. The line
coding is that of a message's fields: a start bit, an ack slot, an end bit and a break are not coded (R39). -/
def Framing.follow (f : Framing) (b : LineBit) : Framing :=
  match f.stage with
  | .unsynced =>
    let g := f.count b
    if Config.breakSeen ≤ g.domRun then g.toBreak
    else if Config.placeBits ≤ g.recRun then g.toIdle 0 Config.idleGap
    else g
  | .idle => if b.readsZero then Framing.startBit else { f.count b.bare with gap := f.gap + 1 }
  | .frame =>
    let g := { f.count b with bits := f.bits ++ [!b.readsZero] }
    if Config.breakSeen ≤ g.domRun then g.toBreak else g
  | .ack =>
    if f.position + 1 < Config.ackSlots then { f.countSlot b.bare with position := f.position + 1 }
    else { f.countSlot b.bare with stage := .ending, position := 0, domRun := 0 }
  | .ending =>
    if b.readsZero then (if f.position = 0 then Framing.startBit else Framing.lostDominant)
    else if f.position + 1 < Config.endBits then { f.count b.bare with position := f.position + 1 }
    else (f.count b.bare).toIdle 0 Config.idleGap
  | .break => if b.readsZero then f.count b.bare else (f.count b.bare).toIdle 1 Config.idleGap

/-- The recessive run at the end of the bits of a message, start bit first, as the line coding leaves it (R39, R42). -/
def lastRun (bits : List Bool) : Nat :=
  ((bits.drop 1).foldl (fun f bit => f.count (.coded (!bit))) Framing.startBit).recRun

/-- The ack field begins after the last CRC bit, the recessive run counting on (R42). -/
def Framing.ackField (f : Framing) (run : Nat) : Framing :=
  { f with stage := .ack, position := 0, bits := [], domRun := 0, recRun := run }

/-- The recessive run at the end of an ack field whose other slots are recessive: `own` is the slot that this station drives, which
resets the run when it is still to come (R42, R46). -/
def Framing.runPastSlots (f : Framing) (own : Option Station) : Nat :=
  match own with
  | some n => if f.position ≤ n.val then Config.ackSlots - (n.val + 1) else f.recRun + (Config.ackSlots - f.position)
  | none => f.recRun + (Config.ackSlots - f.position)

/-- The line falls quiet for a receiver (R42): the bit times up to the stage's entry into IDLE pass, those that no row has told
recessive, but for the own ack slot where it is driven. A message in FRAME is not passed. -/
def Framing.quiet (f : Framing) (own : Option Station) : Framing :=
  match f.stage with
  | .unsynced => { f with recRun := Config.placeBits, domRun := 0 }.toIdle 0 Config.idleGap
  | .break => { f with recRun := 1, domRun := 0 }.toIdle 1 Config.idleGap
  | .ack =>
    { f with recRun := f.runPastSlots own + Config.endBits, domRun := 0 }.toIdle 0 Config.idleGap
  | .ending => { f with recRun := f.recRun + (Config.endBits - f.position), domRun := 0 }.toIdle 0 Config.idleGap
  | .idle | .frame => f

/-- The line end of a received transaction (R117): a voted epoch that waits is written, and the commit condition evaluated. -/
def State.writePendingVote (s : State) : State :=
  match s.barrier.pendingVote with
  | some (n, t) =>
    let s := s.setPeer n fun p => { p with voted := keepLater p.voted t }
    State.evaluateCommit { s with barrier := { s.barrier with pendingVote := none } }
  | none => s

/-- The framing of a receiver leaves the message for a stage outside it, which is a line end (R42, R117). -/
def State.leaveMessage (s : State) (f : Framing) : State := (s.setFraming f).writePendingVote

/-- The ack slot that this station drives, when it has decided to and may (R39, R46). -/
def State.ownSlot (s : State) : Option Station := if s.bus.framing.ackDue && s.handsOn then some s.straps.n else none

/-- The line falls quiet for this station, which is a line end (R42, R117). A message being sent or read in FRAME is not passed. -/
def State.placeLine (s : State) : State :=
  if s.transmitting then s
  else
    match s.bus.framing.stage with
    | .unsynced | .break | .ack | .ending => s.leaveMessage (s.bus.framing.quiet s.ownSlot)
    | .idle | .frame => s

/-! ### Candidates -/

/-- The seq field of every message but a CANVAS: (counter − 1) mod 256 (R64). -/
def State.lastSeq (s : State) : Byte := s.stream.counter - 1

/-- The BEACON this station sends: S, V, C and the history entry for C (R99, R127). -/
def State.beaconHello (s : State) : Hello :=
  match lookupHistory s.raster.history s.barrier.committed with
  | some e => .beacon s.straps.geometryByte s.stream.epoch s.barrier.voted s.barrier.committed e.digest e.complete
  | none => .beacon s.straps.geometryByte s.stream.epoch s.barrier.voted s.barrier.committed 0 false

/-- A transaction as it stands before its start bit (R50). -/
def Txn.fresh (owner : TxOwner) (seq : Byte) (payload : List Byte) : Txn :=
  { owner := owner, seq := seq, payload := payload, attempts := 1, crcDone := false, acked := [], phase := .sending 0 }

/-- The VOTE candidate (R56, R115). -/
def State.voteCandidate (s : State) : Option Txn :=
  if s.isMember then s.barrier.slot.map fun t => Txn.fresh (.vote t) s.lastSeq (bytes16 t) else none

/-- The EDGE candidate (R56, R141). -/
def State.edgeCandidate (s : State) : Option Txn :=
  match s.edge.outbox with
  | r :: _ => if s.edgeEligible r then some (Txn.fresh (.edge r.target) s.lastSeq (encodeEdge r)) else none
  | [] => none

/-- The CANVAS candidate: MEMBER, and a free place in the own inbound queue (R56, R64). -/
def State.canvasCandidate (s : State) : Option Txn :=
  match s.stream.outbound with
  | r :: _ =>
    if s.isMember ∧ s.stream.inbound.length < Config.inboundPlaces then some (Txn.fresh .canvas s.stream.counter r)
    else none
  | [] => none

/-- The HELLO candidate: a BEACON in MEMBER, a JOIN in JOINING, a LEAVE in OUT_OF_STEP (R56). -/
def State.helloCandidate (s : State) : Option Txn :=
  match s.members.hello, s.members.station with
  | some .beacon, .member => some (Txn.fresh .beacon s.lastSeq (encodeHello s.beaconHello))
  | some .join, .joining =>
    some (Txn.fresh .join s.lastSeq (encodeHello (.join s.straps.geometryByte s.stream.epoch)))
  | some .leave, .outOfStep => some (Txn.fresh .leave s.lastSeq (encodeHello (.leave s.straps.geometryByte)))
  | _, _ => none

/-- The arbiter's choice: the eligible candidate of lowest class (R55). -/
def State.candidate (s : State) : Option Txn :=
  s.voteCandidate <|> s.edgeCandidate <|> s.canvasCandidate <|> s.helloCandidate

/-- The class of an owner's message. -/
def TxOwner.msgClass : TxOwner → MsgClass
  | .vote _ => .vote
  | .edge _ => .edge
  | .canvas => .canvas
  | .beacon | .join | .leave => .hello

/-- The attempt a transaction is sending, as a receiver would read it (R50). -/
def State.attemptOf (s : State) (t : Txn) : Received :=
  { originator := s.straps.n, seq := t.seq, attempt := BitVec.ofNat 3 (t.attempts - 1), payload := t.payload }

/-- The bits of the attempt a transaction is sending (R40, R50). -/
def State.attemptBits (s : State) (t : Txn) : List Bool := frameBits t.owner.msgClass (s.attemptOf t)

/-! ### Contending -/

/-- Arbitration over the fields' bits, most significant first: in each bit time the line is dominant when a station still
contending sends 0; a station that sends 1 then drops out (R49). True when this station is left at the end. -/
def arbitrate : List Bool → List (List Bool) → Bool
  | [], _ => true
  | b :: bs, rivals =>
    let line := b && rivals.all fun r => r.headD true
    if b && !line then false
    else arbitrate bs ((rivals.filter fun r => r.headD true == line).map List.tail)

/-- This station's arbitration field for a transaction. -/
def State.arbitration (s : State) (t : Txn) : BitVec 6 := arbitrationField t.owner.msgClass s.straps.n

/-- The lowest of the rivals' arbitration fields, which the line carries when this station loses. -/
def winnerOf (rivals : List (BitVec 6)) : BitVec 6 := rivals.foldl (fun a b => if b < a then b else a) (BitVec.allOnes 6)

/-- FRAME after a start bit and an arbitration field (R42). -/
def arbitrated (field : BitVec 6) : Framing := (fieldBits field).foldl (fun f bit => f.follow (.coded (!bit))) Framing.startBit

/-- The station may send a start bit: nothing of its own is on the line, the stage is IDLE, and the gap count has reached the
required gap (R48). -/
def State.gapReached (s : State) : Bool :=
  !s.transmitting && decide (s.bus.framing.stage = .idle ∧ s.bus.framing.requiredGap ≤ s.bus.framing.gap)

/-- The station contends: the gap is reached and some candidate is eligible (R48, R55). -/
def State.mayContend (s : State) : Bool := s.gapReached && s.candidate.isSome

/-- The contention of a station that contends (R48): the outbox head is checked (R57), the arbiter chooses, and the start bit and the
arbitration field cross the line. The winner's transaction has sent them; a loser follows the winner's message in FRAME, its
candidates pending (R49). Without an eligible candidate there is no choice and no check of the outbox; at a choice the check comes
first. DESIGN CHOICE, unsafe (log 29). -/
def State.contendWith (s : State) (rivals : List (BitVec 6)) : State :=
  if s.mayContend then
    let s := s.recheckOutbox
    match s.candidate with
    | none => s
    | some t =>
      if arbitrate (fieldBits (s.arbitration t)) (rivals.map fieldBits) then
        (s.setTx (some { t with phase := .sending 7 })).setFraming (arbitrated (s.arbitration t))
      else s.setFraming (arbitrated (winnerOf rivals))
  else s

/-! ### The transaction -/

/-- A record appended to the inbound queue, with S advanced and the tag given for a well-formed PRESENT, FORMAT for a malformed
one (R21, R22, R67, R73, R82). -/
def State.appendInbound (s : State) (bytes : List Byte) (o : Station) (q : Byte) (malformed : Bool) : State :=
  let tagged := !malformed && isPresent s.straps bytes
  let epoch := if tagged then s.stream.epoch + 1 else s.stream.epoch
  let r : InRecord :=
    { bytes := bytes, originator := o, seq := q, tag := if tagged then some epoch else none, malformed := malformed }
  State.raiseIf { s with stream := { s.stream with inbound := s.stream.inbound ++ [r], epoch := epoch } } malformed .format

/-- The own record self-delivered and the counter advanced, and the engine takes it if it is IDLE (R63, R73). -/
def State.selfDeliver (s : State) (t : Txn) : State :=
  let s := s.appendInbound t.payload s.straps.n t.seq false
  State.settle { s with stream := { s.stream with counter := s.stream.counter + 1 } }

/-- An attempt completes its CRC field (R50): at the first completion of a CANVAS its record is self-delivered. -/
def State.completeCrc (s : State) (t : Txn) : State :=
  let t' := { t with crcDone := true, phase := .acks 0 [] }
  let s' := (s.setTx (some t')).setFraming (s.bus.framing.ackField (lastRun (s.attemptBits t)))
  if t.owner = .canvas ∧ t.crcDone = false then s'.selfDeliver t else s'

/-- The required ack set of a message is covered by an acked set (R51). -/
def State.covered (s : State) (t : Txn) (acked : List Station) : Bool :=
  match t.owner with
  | .vote _ | .canvas | .join => s.roster.all acked.contains
  | .edge target => acked.contains target
  | .beacon | .leave => true

/-- The acked set with the slots of one more ack field, in station order (R51). -/
def addAcked (acked slots : List Station) : List Station :=
  stations.filter fun n => acked.contains n || slots.contains n

/-- A recessive run that stood at `run` before an ack field, after it (R42). -/
def runAfterSlots (run : Nat) (slots : List Station) : Nat :=
  stations.foldl (fun r n => if slots.contains n then 0 else r + 1) run

/-- What follows an attempt's ack field (R51): the end field COMPLETE when the required set is covered, the start bit of the next
attempt while fewer than 8 have been sent, the end field EXHAUSTED otherwise. -/
def State.afterAckField (s : State) (t : Txn) (acked : List Station) : Txn :=
  let t := { t with acked := acked }
  if s.covered t acked then { t with phase := .closing 0 true }
  else if t.attempts < Config.maxAttempts then { t with attempts := t.attempts + 1, phase := .sending 0 }
  else { t with phase := .closing 0 false }

/-- The end of an attempt's ack field (R51). The framing stage is END; the start bit of a repeat will take it to FRAME (R42). -/
def State.closeAckField (s : State) (t : Txn) (slots : List Station) : State :=
  (s.setTx (some (s.afterAckField t (addAcked t.acked slots)))).setFraming
    { s.bus.framing with
      stage := .ending, position := 0, domRun := 0, recRun := runAfterSlots (lastRun (s.attemptBits t)) slots }

/-- A transaction stops sending and breaks (R52). -/
def State.startBreak (s : State) (t : Txn) (wait : Nat) (f : Framing) : State :=
  (s.setTx (some { t with phase := .breaking wait Config.breakBits false })).setFraming f

/-- A mismatch (R52): the bit about to be sent reads as its opposite, sending stops, and a break of 12 bits begins with the next bit
time, or after slot 15 when that one falls in the ack field. Ack slots are not compared. The framing stage follows the bit read, and
will follow the break (R42). -/
def State.mismatchNow (s : State) : State :=
  match s.bus.tx with
  | some t =>
    match t.phase with
    | .sending p =>
      let bits := s.attemptBits t
      let sent := (bits[p]?).getD true
      if p + 1 = bits.length then
        s.startBreak t Config.ackSlots (s.bus.framing.ackField (lastRun (bits.take p ++ [!sent])))
      else s.startBreak t 0 (s.bus.framing.follow (.coded sent))
    | .closing _ _ => s.startBreak t 0 (s.bus.framing.follow .held)
    | .acks _ _ | .breaking _ _ _ => s
  | none => s

/-- The outcomes of a transaction (R53). -/
inductive Outcome where
  | complete | exhausted | aborted | abortedAfterCrc
  deriving DecidableEq, Repr

/-- The outcome a transaction has when it ends at its present phase: the outer option is none while it does not end there, the
inner one for a soft reset's break, which hands none on (R53, R60). -/
def Txn.outcome (t : Txn) : Option (Option Outcome) :=
  match t.phase with
  | .sending _ | .acks _ _ => none
  | .closing _ complete => some (some (if complete then .complete else .exhausted))
  | .breaking _ _ true => some none
  | .breaking _ _ false => some (some (if t.crcDone then .abortedAfterCrc else .aborted))

/-- The non-ackers of an own VOTE or CANVAS are dropped (R104) when the outcome hands them on (R53). -/
def State.dropAfter (s : State) (o : Outcome) (acked : List Station) : State :=
  match o with
  | .exhausted | .abortedAfterCrc => s.dropPeers (s.nonAckers acked)
  | .complete | .aborted => s

/-- Whether the outcome of an own VOTE or CANVAS drops a peer, and so changes the roster. -/
def State.dropsAfter (s : State) (o : Outcome) (acked : List Station) : Bool :=
  match o with
  | .exhausted | .abortedAfterCrc => !(s.nonAckers acked).isEmpty
  | .complete | .aborted => false

/-- The own vote counts (R115): V keeps the later, and the slot is emptied if it still holds the epoch sent. -/
def State.countVote (s : State) (t : Epoch) : State :=
  { s with
    barrier :=
      { s.barrier with
        voted := laterEpoch s.barrier.voted t
        slot := if s.barrier.slot = some t then none else s.barrier.slot } }

/-- The head of the outbound queue leaves it, with OUTBOUND_SPACE at 8 to 7 (R76). -/
def State.removeOutbound (s : State) : State :=
  State.raiseIf { s with stream := { s.stream with outbound := s.stream.outbound.tail } }
    (decide (s.stream.outbound.length = Config.outboundPlaces)) .outboundSpace

/-- What the owner does with an outcome that delivers its message or gives it up (R53): the fourth consecutive abort keeps a
JOIN from entering MEMBER and a LEAVE from entering LISTENING (R54). -/
def State.ownerEnds (s : State) (t : Txn) (o : Outcome) (fourth : Bool) : State :=
  match t.owner with
  | .vote e =>
    if s.dropsAfter o t.acked then ((s.countVote e).dropAfter o t.acked).rosterChanged
    else (s.countVote e).evaluateCommit
  | .canvas =>
    if s.dropsAfter o t.acked then (s.removeOutbound.dropAfter o t.acked).rosterChanged else s.removeOutbound
  | .edge target =>
    ((s.setOutbox s.edge.outbox.tail).raiseIf (!t.acked.contains target) .edgeLost).recheckOutbox
  | .beacon => s.setStation s.members.station s.members.listenTimer (some 0) none
  | .join =>
    if fourth then { s with members := { s.members with hello := none } } else s.enterMember t.acked
  | .leave => if fourth then { s with members := { s.members with hello := none } } else s.enterListening

/-- The consecutive abort count after an outcome (R54). -/
def abortsAfter (aborts : Nat) (o : Outcome) : Nat :=
  match o with
  | .complete | .exhausted => 0
  | .aborted | .abortedAfterCrc => min Config.maxAborts (aborts + 1)

/-- The framing after the last bit of the own transaction (R42, R48, R52): the bit times of its end field or break that no row has
told are counted, and the stage is IDLE with the hold-off. -/
def Framing.afterOwn (f : Framing) (phase : TxPhase) : Framing :=
  let g :=
    match phase with
    | .closing p _ => { f with recRun := f.recRun + (Config.endBits - p), domRun := 0 }
    | .breaking wait left _ => { f with domRun := (if wait = 0 then f.domRun else 0) + left, recRun := 0 }
    | .sending _ | .acks _ _ => f
  g.toIdle 0 Config.holdOff

/-- The transaction ends with an outcome (R53, R54): the line is IDLE with the hold-off (R48), the owner acts unless the outcome
is ABORTED, and a fourth consecutive abort takes the station to BUS_FAULT. -/
def State.endTransaction (s : State) (t : Txn) (o : Outcome) : State :=
  let aborts := abortsAfter s.bus.aborts o
  let fourth := decide (Config.maxAborts ≤ aborts)
  let s := { s with bus := { framing := s.bus.framing.afterOwn t.phase, tx := none, aborts := aborts } }
  let s := if o = .aborted then s else s.ownerEnds t o fourth
  if fourth then s.enterBusFault else s

/-! ### Bit by bit -/

/-- What the station puts on **TBD** in the coming bit time (R39): a bit of the message it sends, a break, its own ack slot, or
nothing. -/
def State.ownBit (s : State) : LineBit :=
  if s.held || !s.handsOn then .released
  else
    match s.bus.tx with
    | some t =>
      match t.phase with
      | .sending p =>
        match (s.attemptBits t)[p]? with
        | some bit => .coded (!bit)
        | none => .released
      | .breaking wait _ _ => if wait = 0 then .held else .released
      | .acks _ _ | .closing _ _ => .released
    | none =>
      if s.bus.framing.stage = .ack ∧ s.bus.framing.position = s.straps.n.val ∧ s.bus.framing.ackDue = true then .held
      else .released

/-- The station drives **TBD** low in the coming bit time (R39); the line coding turns a level only inside a message's fields. -/
def State.drivesTbd (s : State) : Bool :=
  match s.bus.framing.stage with
  | .unsynced | .frame => s.bus.framing.dominantFor s.ownBit
  | .idle | .ack | .ending | .break => s.ownBit.readsZero

/-- Commands that the part itself puts in its queue. -/
def State.enqueue (s : State) (l : List Instr) : State := { s with pending := s.pending ++ l }

/-- The row that a bit brings a receiver, if it brings one (R42, R43, R44, R45, R117). -/
def Framing.rowFor (f : Framing) (b : LineBit) : Option Instr :=
  match f.stage with
  | .unsynced =>
    if Config.breakSeen ≤ (f.count b).domRun then some .breakSeen
    else if Config.placeBits ≤ (f.count b).recRun then some .linePlaced
    else none
  | .frame =>
    if Config.breakSeen ≤ (f.count b).domRun then some .breakSeen else decodeFrame (f.bits ++ [!b.readsZero])
  | .ending =>
    if b.readsZero then (if f.position = 0 then none else some .endFieldUnsynced)
    else if f.position + 1 < Config.endBits then none
    else some .lineEnd
  | .break => if b.readsZero then none else some .linePlaced
  | .idle | .ack => none

/-- One bit time at a station that is not transmitting (R42): the row that the bit brings is put in the queue and will move the
stage; where it brings none the stage moves on. The own ack slot passes with its bit time (R46). -/
def State.hear (s : State) (b : LineBit) : State :=
  let f := s.bus.framing
  match f.rowFor b with
  | some row => (if f.stage = .frame then s.setFraming (f.follow b) else s).enqueue [row]
  | none =>
    let g := f.follow b
    s.setFraming
      { g with ackDue := g.ackDue && !decide (f.stage = .ack ∧ f.position = s.straps.n.val) }

/-- One bit time at a station that is transmitting: the bit sent is read back, and what the bit time brings about is put in
the queue as its command (R49, R50, R51, R52). The stage follows the own bits as every station does (R42). -/
def State.transmitBit (s : State) (t : Txn) (b : LineBit) : State :=
  let followed := s.setFraming (s.bus.framing.follow b)
  match t.phase with
  | .sending p =>
    let bits := s.attemptBits t
    let sent := (bits[p]?).getD true
    if sent && b.readsZero && decide (1 ≤ p ∧ p ≤ 6) && decide (t.attempts = 1) then followed.setTx none
    else if sent == b.readsZero then s.enqueue [.mismatch]
    else if p + 1 = bits.length then
      if t.owner = .canvas ∧ t.crcDone = false then s.enqueue [.selfDelivery] else s.completeCrc t
    else followed.setTx (some { t with phase := .sending (p + 1) })
  | .acks p slots =>
    let slots := if b.readsZero then slots ++ [Fin.ofNat 16 p] else slots
    if p + 1 = Config.ackSlots then s.enqueue [.ackFieldEnd slots]
    else followed.setTx (some { t with phase := .acks (p + 1) slots })
  | .closing p complete =>
    if b.readsZero then s.enqueue [.mismatch]
    else if p + 1 = Config.endBits then s.enqueue [.transactionEnd]
    else followed.setTx (some { t with phase := .closing (p + 1) complete })
  | .breaking wait left soft =>
    if wait ≠ 0 then followed.setTx (some { t with phase := .breaking (wait - 1) left soft })
    else if left ≤ 1 then s.enqueue [.transactionEnd]
    else followed.setTx (some { t with phase := .breaking 0 (left - 1) soft })

/-- One bit time on the line (R42): its value as every station reads it. -/
def State.lineBit (s : State) (b : LineBit) : State :=
  match s.bus.tx with
  | some t => s.transmitBit t b
  | none => s.hear b

end Sys2Proof.Machine
end

