-- ==== Sys2Proof/Machine/Clock.lean ====
section
/-! DEFINITION. What happens when no command waits: an expiry that is due is put in the queue, and with none due one bit time passes.
The line advances with nobody else driving it, the timers count, the engine issues its next write, and each row that has become due
is put in the queue (DESIGN CHOICE, log 4). -/

namespace Sys2Proof.Machine

/-- A bit time in timer units (R39). -/
def Straps.bitUnits (g : Straps) : Nat := if g.fast then Config.fastBit else Config.slowBit

/-- Every running timer a bit time later. -/
def State.advanceTimers (s : State) : State :=
  let u := s.straps.bitUnits
  { s with
    members :=
      { s.members with
        listenTimer := advanceTimer s.members.listenTimer u
        beaconTimer := advanceTimer s.members.beaconTimer u }
    peers := s.peers.map fun p => { p with silence := advanceTimer p.silence u }
    barrier := { s.barrier with timer := advanceTimer s.barrier.timer u }
    edge := { s.edge with timer := advanceTimer s.edge.timer u }
    scan := { s.scan with timer := advanceTimer s.scan.timer u } }

/-- A command when a condition holds. -/
def dueWhen (c : Bool) (i : Instr) : List Instr := if c then [i] else []

/-- The rows of the timers that have reached their limits, each where its row has an effect (R90, R94, R99, R122, R139, R148). -/
def State.expired (s : State) : List Instr :=
  dueWhen (timerDue s.scan.timer Config.rowLimit) .rowEnd
    ++ dueWhen (decide (s.members.station = .listening) && timerDue s.members.listenTimer Config.listenLimit)
      .listenTimerExpiry
    ++ dueWhen (s.isMember && timerDue s.members.beaconTimer Config.beaconLimit) .beaconTimerExpiry
    ++ (s.roster.filter fun n => timerDue (s.peer n).silence Config.silenceLimit).map Instr.silenceTimeout
    ++ dueWhen (s.barrier.pending.isSome && timerDue s.barrier.timer Config.barrierLimit) .barrierTimeout
    ++ dueWhen (s.edge.shift.any (fun x => decide (x.step = .await)) && timerDue s.edge.timer Config.edgeLimit) .edgeTimeout

/-- The rows of a bit time: contention, and the next write of the engine. -/
def State.bitRows (s : State) : List Instr :=
  dueWhen s.mayContend (.contend [])
    ++ dueWhen s.writeWaits .drawPlaneWrite
    ++ dueWhen (decide (s.raster.engine = .copying ∧ Config.planeBytes ≤ s.raster.issued + 1)) .copyComplete

/-- A copy in progress issues one byte write, but for its last, which is COPY_COMPLETE's (R7, R124). -/
def State.copyStep (s : State) : State :=
  if s.raster.engine = .copying ∧ s.raster.issued + 1 < Config.planeBytes then s.copyWrite else s

/-- One bit time in which nobody else drives the line. -/
def State.bitTime (s : State) : State :=
  let s := (s.lineBit s.ownBit).advanceTimers.copyStep
  s.enqueue s.bitRows

/-- What happens when no command waits: a timer at its limit puts its row in the queue, one at a time and before any time passes,
so that each is judged on the state the one before it left (R122, R150); with none there, a bit time passes. A part held in reset
stands still. -/
def State.tick (s : State) : State :=
  whenRunning s fun s =>
    match s.expired with
    | row :: _ => s.enqueue [row]
    | [] => s.bitTime

end Sys2Proof.Machine
end

