-- ==== Sys2Proof/Machine/Receive.lean ====
section
/-! DEFINITION. The receptions: what a station does at the end of the CRC field of another station's message (R45), and the
rows that follow the line without a message (chapters 3 to 7). -/

namespace Sys2Proof.Machine

/-! ### The hand-off -/

/-- The line at the start of a message: an attempt numbered 0 begins a transaction, so the line was idle before it; a repeat
follows its attempt without a line end (R51, R117; log 13). -/
def State.beforeMessage (s : State) (attempt : BitVec 3) : State :=
  match s.bus.framing.stage with
  | .ack | .ending => if attempt = 0 then s.placeLine else s
  | .unsynced | .break => s.placeLine
  | .idle | .frame => s

/-- The reception discarded for its length: UNSYNCED, which is a line end for an earlier attempt (R44, R117). -/
def State.loseMessage (s : State) : State := s.leaveMessage Framing.lost

/-- The end of the CRC field of a message with a good CRC (R45): the ack field begins; a station in STRAP_FAULT or BUS_FAULT
hands nothing on; a message with the own number takes the station to BUS_FAULT (R105); otherwise the sender's silence timer
restarts (R90) and the class's blocks decide. -/
def State.handOn (s : State) (cls : MsgClass) (m : Received) (blocks : State → State) : State :=
  if s.transmitting then s
  else if Config.maxPayload < m.payload.length then (s.beforeMessage m.attempt).loseMessage
  else
    let s := s.beforeMessage m.attempt
    let s := s.setFraming { s.bus.framing.ackField (lastRun (frameBits cls m)) with ackDue := false }
    if !s.handsOn then s
    else if m.originator = s.straps.n then s.enterBusFault
    else blocks (s.restartSilence m.originator)

/-- The blocks' part for a CANVAS, VOTE or EDGE: withheld while the sender is FOREIGN (R107). -/
def State.unlessForeign (s : State) (m : Received) (blocks : State → State) : State :=
  if s.isForeign m.originator then s else blocks s

/-! ### CANVAS -/

/-- The result of R67. -/
inductive CanvasVerdict where
  | accept | noRoom | duplicate | gap
  deriving DecidableEq, Repr

/-- The decision on a CANVAS message in MEMBER, from E, the seq field and whether a place is free (R67, R68). -/
def canvasVerdict (expected : Option Byte) (q : Byte) (room : Bool) : CanvasVerdict :=
  match expected with
  | none => if room then .accept else .noRoom
  | some e =>
    if q = e then (if room then .accept else .noRoom)
    else if q = e - 1 then .duplicate
    else .gap

/-- The inbound queue has a free place (R68). -/
def State.hasRoom (s : State) : Bool := decide (s.stream.inbound.length < Config.inboundPlaces)

/-- A record accepted: appended, E one past it, acked, and taken if the engine is IDLE (R21, R24, R67). -/
def State.acceptCanvas (s : State) (m : Received) : State :=
  let s := s.appendInbound m.payload m.originator m.seq (parseOp s.straps m.payload).isNone
  ((s.setExpected m.originator (m.seq + 1)).decideAck).settle

/-- A CANVAS observed in LISTENING or JOINING (R71, R82): E follows it, a well-formed PRESENT that is no duplicate advances S,
and a gap is reported. -/
def State.observeCanvas (s : State) (m : Received) : State :=
  let duplicate := decide ((s.peer m.originator).expected = some (m.seq + 1))
  let gap := decide (canvasVerdict (s.peer m.originator).expected m.seq true = .gap)
  let epoch := if !duplicate && isPresent s.straps m.payload then s.stream.epoch + 1 else s.stream.epoch
  let s := { s with stream := { s.stream with epoch := epoch } }.setExpected m.originator (m.seq + 1)
  if gap then s.reportGap else s

/-- A CANVAS message judged or observed (R66, R67, R69, R71, R72). R68's last sentence has the queue hold 16 records after an
instant at which a completion and this decision meet, in both orders; with the decision first the message is not taken and the
completion removes a record (R31), so the model's queue then holds 15. DEDUCED, unsafe (log 25). -/
def State.judgeCanvas (s : State) (m : Received) : State :=
  if s.isMember then
    match canvasVerdict (s.peer m.originator).expected m.seq s.hasRoom with
    | .accept => s.acceptCanvas m
    | .noRoom => s
    | .duplicate => s.decideAck
    | .gap => s.enterOutOfStep
  else if s.observes then s.observeCanvas m
  else s

/-! ### VOTE and EDGE -/

/-- The epoch of a well-formed VOTE (R116). -/
def parseVote : List Byte → Option Epoch
  | [a, b] => some (be16 a b)
  | _ => none

/-- A VOTE checked for a gap and handed to the Barrier Unit (R70, R71, R116). -/
def State.judgeVote (s : State) (m : Received) : State :=
  if s.isMember then
    if s.showsGap m.originator m.seq then s.enterOutOfStep
    else
      match parseVote m.payload with
      | some t => s.decideAck.holdVote m.originator t
      | none => s
  else if s.observes then
    match parseVote m.payload with
    | some t => (s.observeOther m.originator m.seq).holdVote m.originator t
    | none => s.observeOther m.originator m.seq
  else s

/-- The strip of a well-formed EDGE whose target is this station (R142). -/
def State.stripForMe (s : State) (m : Received) : Option EdgePayload :=
  (parseEdge m.payload).filter fun p => p.target = s.straps.n

/-- An EDGE checked for a gap and handed to the Edge Unit (R70, R71, R142, R143). -/
def State.judgeEdge (s : State) (m : Received) : State :=
  if s.isMember then
    if s.showsGap m.originator m.seq then s.enterOutOfStep
    else
      match s.stripForMe m with
      | some p => if (s.judgeStrip p).acks then (s.takeStrip p).decideAck else s.takeStrip p
      | none => s
  else if s.observes then s.observeOther m.originator m.seq
  else s

/-! ### HELLO -/

/-- The geometry check of a well-formed HELLO (R107): a different W or H makes the sender FOREIGN with GEOMETRY, and the HELLO has
no further effect. -/
def State.checkGeometry (s : State) (o : Station) (geometry : Byte) (blocks : State → State) : State :=
  if geometry = s.straps.geometryByte then blocks s else (s.raise .geometry).removePeer o .foreign

/-- A malformed HELLO (R92): the Stream Controller's gap check and observation alone, as for a BEACON; nothing from a FOREIGN
peer (R65, R107). -/
def State.malformedHello (s : State) (m : Received) : State :=
  if s.isForeign m.originator then s
  else if s.isMember then (if s.showsGap m.originator m.seq then s.enterOutOfStep else s)
  else if s.observes then s.observeOther m.originator m.seq
  else s

/-- The S comparison of a roster peer's BEACON (R100, R108). -/
def State.compareEpoch (s : State) (o : Station) (theirs : Epoch) : State :=
  if theirs = s.stream.epoch then s
  else
    s.diverge
      { peer := o, cause := .streamEpoch, epoch := s.barrier.committed, own := s.stream.epoch.setWidth 32
        theirs := theirs.setWidth 32 }

/-- The digest comparison of a roster peer's BEACON (R128). -/
def State.compareDigest (s : State) (o : Station) (committed : Epoch) (digest : BitVec 32) (complete : Bool) : State :=
  match lookupHistory s.raster.history committed with
  | some e =>
    if complete && e.complete && decide (e.digest ≠ digest) then
      s.diverge { peer := o, cause := .digest, epoch := committed, own := e.digest, theirs := digest }
    else s
  | none => s

/-- A peer that a BEACON makes a candidate in LISTENING or JOINING: MEMBER from now on (R93). The roster change is told where there is
one, and an entry that was MEMBER stays so and is none (R57, R89). -/
def State.observeCandidate (s : State) (o : Station) : State :=
  if s.inRoster o then s.setPeer o Peer.asMember else (s.setPeer o Peer.asMember).rosterChanged

/-- S set by an observed BEACON (R82). -/
def State.setEpoch (s : State) (e : Epoch) : State := { s with stream := { s.stream with epoch := e } }

/-- A well-formed BEACON with matching geometry (R93, R100, R118, R128). -/
def State.judgeBeacon (s : State) (m : Received) (epoch voted committed : Epoch) (digest : BitVec 32)
    (complete : Bool) : State :=
  let o := m.originator
  if s.isForeign o then s
  else if s.isMember then
    if s.showsGap o m.seq then s.enterOutOfStep
    else if s.inRoster o then ((s.compareEpoch o epoch).compareDigest o committed digest complete).holdVote o voted
    else s
  else if s.observes then
    (((s.observeOther o m.seq).observeCandidate o).setEpoch epoch).holdVote o voted
  else s

/-- What follows when a JOIN has made an entry MEMBER and written its voted epoch: a change of the roster is told (R57, R89), and the
commit condition is evaluated in either case (R118, R119). -/
def State.afterJoin (s : State) (changed : Bool) : State := if changed then s.rosterChanged else s.evaluateCommit

/-- A JOIN admitted (R96, R118): MEMBER, or MEMBER still, its voted epoch set, acked, PEER_JOINED. -/
def State.admitJoin (s : State) (o : Station) (epoch : Epoch) : State :=
  let t := s.setPeer o fun p => { p.asMember with voted := some epoch }
  (t.decideAck.raise .peerJoined).afterJoin (!s.inRoster o)

/-- A JOIN not admitted (R97, R108): the divergence, and a MEMBER entry becomes DROPPED. -/
def State.refuseJoin (s : State) (o : Station) (epoch : Epoch) : State :=
  let s :=
    s.diverge
      { peer := o, cause := .joinEpoch, epoch := s.barrier.committed, own := s.stream.epoch.setWidth 32
        theirs := epoch.setWidth 32 }
  if s.inRoster o then s.removePeer o .dropped else s

/-- A JOIN with matching geometry clears FOREIGN (R107). -/
def Peer.clearForeign (p : Peer) : Peer := if p.state = .foreign then { p with state := .absent } else p

/-- A well-formed JOIN with matching geometry (R93, R96, R97, R98, R107, R118). In LISTENING, JOINING and MEMBER it sets E whatever E was
(R70). Where that moves E of a peer whose records this station has already taken, the peer's next records do not carry on the numbers
that R81 has consecutive and R78 has distinct in the queue; the model follows R70. DESIGN CHOICE, unsafe (log 27). -/
def State.judgeJoin (s : State) (m : Received) (epoch : Epoch) : State :=
  let o := m.originator
  let s := s.setPeer o Peer.clearForeign
  if s.isMember then
    let s := s.setExpected o (m.seq + 1)
    if epoch = s.stream.epoch then s.admitJoin o epoch else s.refuseJoin o epoch
  else if s.observes then
    ((s.setExpected o (m.seq + 1)).setPeer o fun p => { p.asMember with voted := some epoch }).afterJoin (!s.inRoster o)
  else s

/-- A LEAVE's part in the Membership Unit: the sender becomes ABSENT (R103). -/
def State.peerLeaves (s : State) (o : Station) : State := s.removePeer o .absent

/-- A well-formed LEAVE with matching geometry (R70, R71, R103). -/
def State.judgeLeave (s : State) (m : Received) : State :=
  let o := m.originator
  if s.isForeign o then s
  else if s.isMember then (if s.showsGap o m.seq then s.enterOutOfStep.peerLeaves o else s.peerLeaves o)
  else if s.observes then (s.observeOther o m.seq).peerLeaves o
  else s.peerLeaves o

/-! ### The rows -/

/-- CANVAS_RECEIVED (R67). -/
def execCanvasReceived (m : Received) (s : State) : Host.Outcome State Fault Refusal :=
  .next (whenRunning s fun s => s.handOn .canvas m fun s => s.unlessForeign m fun s => s.judgeCanvas m)

/-- VOTE_RECEIVED (R116). -/
def execVoteReceived (m : Received) (s : State) : Host.Outcome State Fault Refusal :=
  .next (whenRunning s fun s => s.handOn .vote m fun s => s.unlessForeign m fun s => s.judgeVote m)

/-- EDGE_RECEIVED (R143). -/
def execEdgeReceived (m : Received) (s : State) : Host.Outcome State Fault Refusal :=
  .next (whenRunning s fun s => s.handOn .edge m fun s => s.unlessForeign m fun s => s.judgeEdge m)

/-- BEACON_RECEIVED (R100): a payload that is no well-formed BEACON is a malformed HELLO (R92). -/
def execBeaconReceived (m : Received) (s : State) : Host.Outcome State Fault Refusal :=
  .next (whenRunning s fun s => s.handOn .hello m fun s =>
    match parseHello m.payload with
    | some (.beacon g e v c d complete) => s.checkGeometry m.originator g fun s => s.judgeBeacon m e v c d complete
    | _ => s.malformedHello m)

/-- JOIN_RECEIVED (R96): a payload that is no well-formed JOIN is a malformed HELLO (R92). -/
def execJoinReceived (m : Received) (s : State) : Host.Outcome State Fault Refusal :=
  .next (whenRunning s fun s => s.handOn .hello m fun s =>
    match parseHello m.payload with
    | some (.join g e) => s.checkGeometry m.originator g fun s => s.judgeJoin m e
    | _ => s.malformedHello m)

/-- LEAVE_RECEIVED (R103): a payload that is no well-formed LEAVE is a malformed HELLO (R92). -/
def execLeaveReceived (m : Received) (s : State) : Host.Outcome State Fault Refusal :=
  .next (whenRunning s fun s => s.handOn .hello m fun s =>
    match parseHello m.payload with
    | some (.leave g) => s.checkGeometry m.originator g fun s => s.judgeLeave m
    | _ => s.malformedHello m)

/-- A message discarded at a length field above 160, or at its last CRC bit, the recessive run being the one its bits leave
(R42, R44). -/
def State.discardMessage (s : State) (bits : List Bool) : State :=
  if s.transmitting then s
  else if Config.maxPayload < fieldAt bits 18 8 then s.loseMessage
  else s.setFraming { s.bus.framing.ackField (lastRun bits) with ackDue := false }

/-- BAD_CRC (R44): a message discarded for its CRC, or for a length above 160. The attempt is a repeat when the line has not
ended since the last one (R42). -/
def execBadCrc (bits : List Bool) (s : State) : Host.Outcome State Fault Refusal :=
  .next (whenRunning s fun s => (s.beforeMessage 1).discardMessage bits)

/-- A break on the line at a station that is not sending (R43). -/
def State.breakOnLine (s : State) : State :=
  if s.transmitting then s
  else s.setFraming { Framing.reset with stage := .break, domRun := Config.breakSeen }

/-- BREAK (R43). -/
def execBreakSeen (s : State) : Host.Outcome State Fault Refusal := .next (whenRunning s State.breakOnLine)

/-- The line end of a received transaction (R117): from the ack or end field, or from a break at its first recessive bit. -/
def State.endLine (s : State) : State :=
  match s.bus.framing.stage with
  | .ack | .ending | .break => s.placeLine
  | .unsynced | .idle | .frame => s

/-- LINE_END (R117). -/
def execLineEnd (s : State) : Host.Outcome State Fault Refusal := .next (whenRunning s State.endLine)

/-- The framing stage enters IDLE from UNSYNCED or BREAK (R42). -/
def State.enterIdle (s : State) : State :=
  match s.bus.framing.stage with
  | .unsynced | .break => s.placeLine
  | .idle | .frame | .ack | .ending => s

/-- LINE_PLACED (R42). -/
def execLinePlaced (s : State) : Host.Outcome State Fault Refusal := .next (whenRunning s State.enterIdle)

/-- A dominant bit at end bits 2..7 of a received message (R42, R117). -/
def State.upsetEndField (s : State) : State :=
  if s.transmitting then s
  else
    match s.bus.framing.stage with
    | .ack | .ending => s.leaveMessage Framing.lostDominant
    | .unsynced | .idle | .frame | .break => s

/-- END_FIELD_UNSYNCED (R42). -/
def execEndFieldUnsynced (s : State) : Host.Outcome State Fault Refusal := .next (whenRunning s State.upsetEndField)

end Sys2Proof.Machine
end

