-- ==== Sys2Proof/Machine/SenderRows.lean ====
section
/-! DEFINITION. The rows of a station that sends (chapter 3). -/

namespace Sys2Proof.Machine

/-- CONTEND (R48): it happens on an idle line after the required gap, and only with an eligible candidate. -/
def execContend (rivals : List (BitVec 6)) (s : State) : Host.Outcome State Fault Refusal :=
  .next (whenRunning s fun s => s.contendWith rivals)

/-- SELF_DELIVERY (R73): at the first CRC completion of the own CANVAS transaction. -/
def execSelfDelivery (s : State) : Host.Outcome State Fault Refusal :=
  .next (whenRunning s fun s =>
    match s.bus.tx with
    | some t =>
      match t.phase with
      | .sending _ => if t.owner = .canvas ∧ t.crcDone = false then s.completeCrc t else s
      | .acks _ _ | .closing _ _ | .breaking _ _ _ => s
    | none => s)

/-- The ack field of the transaction in progress ends (R51). -/
def State.endAckField (s : State) (slots : List Station) : State :=
  match s.bus.tx with
  | some t =>
    match t.phase with
    | .acks _ seen => s.closeAckField t (seen ++ slots)
    | .sending _ | .closing _ _ | .breaking _ _ _ => s
  | none => s

/-- ACK_FIELD_END (R51). The ack field follows a completed CRC field, so an attempt still being sent completes its CRC first
(R50, log 14). -/
def execAckFieldEnd (slots : List Station) (s : State) : Host.Outcome State Fault Refusal :=
  .next (whenRunning s fun s =>
    match s.bus.tx with
    | some t =>
      match t.phase with
      | .sending _ => (s.completeCrc t).endAckField slots
      | .acks _ _ => s.endAckField slots
      | .closing _ _ | .breaking _ _ _ => s
    | none => s)

/-- MISMATCH (R52). -/
def execMismatch (s : State) : Host.Outcome State Fault Refusal := .next (whenRunning s State.mismatchNow)

/-- The end of a soft reset's break: no outcome, the abort count as it is, the hold-off (R60, R184). -/
def State.endResetBreak (s : State) (t : Txn) : State :=
  { s with bus := { s.bus with framing := s.bus.framing.afterOwn t.phase, tx := none } }

/-- TRANSACTION_END (R53). -/
def execTransactionEnd (s : State) : Host.Outcome State Fault Refusal :=
  .next (whenRunning s fun s =>
    match s.bus.tx with
    | some t =>
      match t.outcome with
      | some (some o) => s.endTransaction t o
      | some none => s.endResetBreak t
      | none => s
    | none => s)

end Sys2Proof.Machine
end

