-- ==== Sys2Proof/Machine/Formats.lean ====
section
/-! DEFINITION. What the local port shifts out: the status byte (R174, 11.7) and the responses (R177, R178, R179, 11.8). -/

namespace Sys2Proof.Machine

/-- Station state codes (11.2). -/
def StationState.code : StationState → Byte
  | .strapFault => 0
  | .listening => 1
  | .joining => 2
  | .member => 3
  | .outOfStep => 4
  | .busFault => 5

/-- Peer entry state codes (11.2). -/
def PeerState.code : PeerState → Byte
  | .self => 0
  | .absent => 1
  | .member => 2
  | .dropped => 3
  | .foreign => 4

/-- Raster Engine state codes (11.2). -/
def EngineState.code : EngineState → Byte
  | .idle => 0
  | .applying => 1
  | .awaitEdge => 2
  | .awaitBarrier => 3
  | .copying => 4

/-- Shown plane codes (11.2). -/
def PlaneName.code : PlaneName → Byte
  | .a => 0
  | .b => 1

/-- Last POST result codes (11.2). -/
def PostResult.code : PostResult → Byte
  | .accepted => 0
  | .full => 1
  | .invalid => 2
  | .notMember => 3

/-- Divergence cause codes (11.2). -/
def DivergenceCause.code : DivergenceCause → Byte
  | .streamEpoch => 0
  | .digest => 1
  | .joinEpoch => 2

/-- A bit at a place of a byte. -/
def flagBit (b : Bool) (i : Nat) : Byte := if b then BitVec.twoPow 8 i else 0

/-- Filler, the byte 0x00 (R190). -/
def filler : Byte := 0

/-- The status byte (R174, 11.7). -/
def State.statusByte (s : State) : Byte :=
  (s.members.station.code <<< 5) ||| flagBit s.irqPending 4
    ||| flagBit (decide (s.stream.outbound.length = Config.outboundPlaces)) 3
    ||| flagBit (decide (s.stream.inbound.length = Config.inboundPlaces)) 2
    ||| flagBit (decide (s.stream.lastPost ≠ .accepted)) 1

/-- A map of stations: bit n of the 16-bit value is station n (11.8). -/
def stationMap (l : List Station) : Half := l.foldl (fun acc n => acc ||| BitVec.twoPow 16 n.val) 0

/-- A count as one byte. -/
def countByte (n : Nat) : Byte := BitVec.ofNat 8 n

/-- The status block, 22 bytes (R178, 11.8). -/
def State.statusBlock (s : State) : List Byte :=
  [s.members.station.code, countByte s.straps.n.val, countByte s.straps.w, countByte s.straps.h]
    ++ bytes16 s.stream.epoch ++ bytes16 s.barrier.committed ++ bytes16 s.barrier.voted
    ++ [s.raster.engine.code, s.barrier.shown.code, countByte s.stream.outbound.length,
      countByte s.stream.inbound.length, countByte s.edge.outbox.length, countByte s.edge.inbox.length,
      s.stream.counter, s.stream.lastPost.code]
    ++ bytes16 (stationMap s.roster) ++ bytes16 (stationMap s.barrier.late)

/-- The event flags, 2 bytes (11.8). -/
def State.eventBytes (s : State) : List Byte := bytes16 s.events.flags

/-- The divergence record, 13 bytes; an absent one reads 0 throughout (R189, 11.8). -/
def State.divergenceBytes (s : State) : List Byte :=
  match s.members.divergence with
  | some r => [1, countByte r.peer.val, r.cause.code] ++ bytes16 r.epoch ++ bytes32 r.own ++ bytes32 r.theirs
  | none => List.replicate 13 0

/-- The peer record of an entry, 6 bytes: an absent field reads 0 with its presence bit clear (R179, R189, 11.8). -/
def State.peerBytes (s : State) (n : Station) : List Byte :=
  let p := s.peer n
  let v := s.votedShown n
  [p.state.code,
    flagBit p.silence.isSome 0 ||| flagBit p.diverged 1 ||| flagBit p.expected.isSome 2 ||| flagBit p.applied.isSome 3
      ||| flagBit v.isSome 4,
    p.expected.getD 0, p.applied.getD 0] ++ bytes16 (v.getD 0)

/-- The watch record of an entry, 9 bytes (R179, R189, 11.8). -/
def WatchEntry.bytes (w : WatchEntry) : List Byte :=
  [flagBit w.enabled 0 ||| flagBit w.firstHit.isSome 1 ||| flagBit w.firstHit.isSome 2]
    ++ bytes16 (BitVec.ofNat 16 w.x0) ++ [countByte w.y0] ++ bytes16 (BitVec.ofNat 16 w.x1) ++ [countByte w.y1]
    ++ (match w.firstHit with
      | some (o, q) => [countByte o.val, q]
      | none => [0, 0])

/-- **SDO** is driven: **CS#** is low in a transaction that the port has begun. It is high impedance while **CS#** is high,
while a reset holds the part, and after one until **CS#** has risen and fallen again (R172, R185). -/
def State.sdoDriven (s : State) : Bool :=
  !s.held && decide (s.port.phase ≠ .idle ∧ s.port.phase ≠ .waitRise)

/-- Byte i of the transaction on **SDO**: what was loaded, then filler (R177, R190); none while **SDO** is high impedance. -/
def State.sdoByte (s : State) (i : Nat) : Option Byte :=
  if s.sdoDriven then some ((s.port.out[i]?).getD filler) else none

/-- Bit i of the transaction on **SDO**, the most significant of each byte first (R172, R187). -/
def State.sdoBit (s : State) (i : Nat) : Option Bool := (s.sdoByte (i / 8)).map fun b => b.getMsbD (i % 8)

end Sys2Proof.Machine
end

