-- ==== Sys2Proof/Machine/PortCommands.lean ====
section
/-! DEFINITION. The local port's rows (chapters 8, 9 and 10). -/

namespace Sys2Proof.Machine

/-! ### The transaction -/

/-- The port's transaction and the bytes loaded for **SDO**. -/
def State.setPort (s : State) (phase : PortPhase) (out : List Byte) : State :=
  { s with port := { s.port with phase := phase, out := out } }

/-- A falling edge of **CS#**: a transaction begins and the status byte is loaded (R172, R174). -/
def State.beginTransaction (s : State) : State := s.setPort .opened [s.statusByte]

/-- The phase a command leaves: **CS#** high when it has risen, else the phase given. -/
def PortPhase.unlessRisen (open' : PortPhase) (rises : Bool) : PortPhase := if rises then .idle else open'

/-- A command told while the port takes none: **RST#** holds the part, or **CS#** has not risen since a reset. Its bits are ignored,
and a rise of **CS#** ends the wait (R185). -/
def State.ignoreBits (s : State) (rises : Bool) : State := s.setPort (PortPhase.waitRise.unlessRisen rises) s.port.out

/-- The port takes no transaction (R185). -/
def State.portDeaf (s : State) : Bool := s.held || decide (s.port.phase = .waitRise)

/-- A command of the transaction that CS_FALL opened; without one before it the command brings its own falling edge, and the rise
before that (log 5). A deaf port takes none (R185). -/
def State.portCommand (s : State) (rises : Bool) (f : State → State) : State :=
  if s.portDeaf then s.ignoreBits rises
  else if s.port.phase = .opened then f s
  else f s.beginTransaction

/-- A command taken at **CS#** rise, which ends the transaction (R173, R175). -/
def State.atRise (s : State) (f : State → State) : State :=
  s.portCommand true fun s => (f s).setPort .idle s.port.out

/-- A response captured and loaded behind the bytes already loaded (R173, R177); the transaction lasts until **CS#** rises. -/
def State.respond (s : State) (rises : Bool) (bytes : List Byte) : State :=
  s.setPort (PortPhase.finished.unlessRisen rises) (s.port.out ++ bytes)

/-- CS_FALL (R172, R174). A falling edge loads the status byte; without an edge of **SCK** before the rise there is no command
(R175). A part held in reset begins no transaction at that edge (R185). A rise ends the transaction in progress, what was loaded
having been shifted out as far as the host went. -/
def execCsFall (s : State) (edges : CsEdges := .fall) : Host.Outcome State Fault Refusal :=
  .next (match edges with
    | .rise => s.setPort .idle s.port.out
    | .fall => if s.held then s.ignoreBits false else s.beginTransaction
    | .fallRise => if s.held then s.ignoreBits true else s.beginTransaction.setPort .idle [s.statusByte])

/-- UNKNOWN_OPCODE (R176): PORT_ERROR at the arrival of the opcode, the rest ignored. A byte that names a command is no such
event. -/
def execUnknownOpcode (opcode : Byte) (s : State) (rises : Bool := false) : Host.Outcome State Fault Refusal :=
  .next (if knownOpcodes.contains opcode then s else s.portCommand rises fun s => (s.raise .portError).respond rises [])

/-- SHORT_TRANSACTION (R175): discarded with PORT_ERROR at **CS#** rise. -/
def execShortTransaction (s : State) : Host.Outcome State Fault Refusal :=
  .next (s.atRise fun s => s.raise .portError)

/-! ### Reading -/

/-- READ_STATUS (R177, R178). -/
def execReadStatus (s : State) (rises : Bool := false) : Host.Outcome State Fault Refusal :=
  .next (s.portCommand rises fun s => s.respond rises s.statusBlock)

/-- READ_EVENTS (R168, R177). -/
def execReadEvents (s : State) (rises : Bool := false) : Host.Outcome State Fault Refusal :=
  .next (s.portCommand rises fun s => s.respond rises s.eventBytes)

/-- READ_DIVERGENCE (R177). -/
def execReadDivergence (s : State) (rises : Bool := false) : Host.Outcome State Fault Refusal :=
  .next (s.portCommand rises fun s => s.respond rises s.divergenceBytes)

/-- READ_PEER (R179): filler during the index byte, then the peer record; PORT_ERROR for an index above 15. -/
def execReadPeer (index : Byte) (s : State) (rises : Bool := false) : Host.Outcome State Fault Refusal :=
  .next (s.portCommand rises fun s =>
    if index.toNat ≤ 15 then s.respond rises (filler :: s.peerBytes (Fin.ofNat 16 index.toNat))
    else (s.raise .portError).respond rises [])

/-- READ_WATCH (R179): filler during the entry byte, then the watch record; PORT_ERROR for an entry above 3. -/
def execReadWatch (entry : Byte) (s : State) (rises : Bool := false) : Host.Outcome State Fault Refusal :=
  .next (s.portCommand rises fun s =>
    match s.watch[entry.toNat]? with
    | some w => s.respond rises (filler :: w.bytes)
    | none => (s.raise .portError).respond rises [])

/-! ### Posting -/

/-- A POST's result (R75). -/
def State.postResult (s : State) (record : List Byte) : PostResult :=
  if parseOp s.straps record = none then .invalid
  else
    match s.members.station with
    | .outOfStep | .busFault | .strapFault => .notMember
    | .listening | .joining | .member =>
      if Config.outboundPlaces ≤ s.stream.outbound.length then .full else .accepted

/-- A POST taken: its result, and the record at the tail when it is ACCEPTED (R75, R180). -/
def State.takePost (s : State) (record : List Byte) : State :=
  let r := s.postResult record
  { s with
    stream :=
      { s.stream with
        outbound := if r = .accepted then s.stream.outbound ++ [record] else s.stream.outbound
        lastPost := r } }

/-- POST (R180): judged at **CS#** rise on the bytes of its record; a short one is discarded with PORT_ERROR. -/
def execPost (record : List Byte) (s : State) : Host.Outcome State Fault Refusal :=
  .next (s.atRise fun s =>
    match recordLength record with
    | some n => s.takePost (record.take n)
    | none => s.raise .portError)

/-! ### Events and watch -/

/-- The flags a clear mask selects cleared; bit 7 empties the divergence record and every mark (R109, R168). -/
def State.clearFlags (s : State) (mask : Half) : State :=
  let s := { s with events := { s.events with flags := s.events.flags &&& ~~~mask } }
  if mask.getLsbD 7 then
    State.mapPeers { s with members := { s.members with divergence := none } } fun p => { p with diverged := false }
  else s

/-- CLEAR_EVENTS (R168). -/
def execClearEvents (mask : Half) (s : State) : Host.Outcome State Fault Refusal :=
  .next (s.atRise fun s => s.clearFlags mask)

/-- SET_MASK (R169). -/
def execSetMask (mask : Half) (s : State) : Host.Outcome State Fault Refusal :=
  .next (s.atRise fun s => { s with events := { s.events with mask := mask } })

/-- The check of a SET WATCH (R163). -/
def State.watchAllowed (s : State) (entry x0 y0 x1 y1 : Nat) : Bool :=
  decide (entry ≤ 3 ∧ x0 ≤ x1 ∧ x1 < s.straps.canvasWidth ∧ y0 ≤ y1 ∧ y1 < s.straps.canvasHeight)

/-- SET_WATCH (R163): the entry replaced and its hit cleared, or PORT_ERROR. Bits 7..1 of the enabled byte are reserved
(R188). -/
def execSetWatch (entry enabled : Byte) (x0 : Half) (y0 : Byte) (x1 : Half) (y1 : Byte) (s : State) :
    Host.Outcome State Fault Refusal :=
  .next (s.atRise fun s =>
    if s.watchAllowed entry.toNat x0.toNat y0.toNat x1.toNat y1.toNat then
      { s with
        watch :=
          s.watch.set entry.toNat
            { enabled := enabled.getLsbD 0, x0 := x0.toNat, y0 := y0.toNat, x1 := x1.toNat, y1 := y1.toNat
              firstHit := none } }
    else s.raise .portError)

/-- The hits of the entries a selection names cleared; bits 7..4 are reserved (R165, R188). -/
def clearHits (selection : Byte) (l : List WatchEntry) : List WatchEntry :=
  l.mapIdx fun e w => if selection.getLsbD e then { w with firstHit := none } else w

/-- CLEAR_WATCH_HITS (R165). -/
def execClearWatchHits (selection : Byte) (s : State) : Host.Outcome State Fault Refusal :=
  .next (s.atRise fun s => { s with watch := clearHits selection s.watch })

/-! ### Overlay -/

/-- The cursor moved. -/
def State.setCursor (s : State) (c : Cursor) : State := { s with port := { s.port with cursor := c } }

/-- The column one further, saturating at 143 (R157, R158). -/
def Cursor.advance (c : Cursor) : Cursor := { c with column := min 143 (c.column + 1) }

/-- The address under the cursor. -/
def Cursor.address (c : Cursor) : Nat := byteAddress c.band c.column

/-- SET_CURSOR (R156). -/
def execSetCursor (band column : Byte) (s : State) : Host.Outcome State Fault Refusal :=
  .next (s.atRise fun s =>
    if band.toNat ≤ 5 ∧ column.toNat ≤ 143 then s.setCursor { band := band.toNat, column := column.toNat }
    else s.raise .portError)

/-- One overlay byte stored at the cursor, which advances (R157). -/
def State.overlayWrite (s : State) (v : Byte) : State :=
  { s with
    port := { s.port with overlay := s.port.overlay.write s.port.cursor.address v, cursor := s.port.cursor.advance } }

/-- A run of overlay bytes (R157). -/
def State.overlayWrites (s : State) (data : List Byte) : State := data.foldl State.overlayWrite s

/-- The streaming command whose phase this is goes on in the transaction in progress (R173, R182). -/
def State.inStream (s : State) (phase : PortPhase) : Bool := !s.held && decide (s.port.phase = phase)

/-- Data bytes of a WRITE OVERLAY as they arrive (R157, R182). -/
def State.takeOverlayBytes (s : State) (data : List Byte) (rises : Bool) : State :=
  (s.overlayWrites data).setPort (PortPhase.writing.unlessRisen rises) s.port.out

/-- WRITE_OVERLAY (R157): in a WRITE OVERLAY in progress its bytes are further data bytes; else it is the opcode and the data
bytes behind it. -/
def execWriteOverlay (data : List Byte) (s : State) (rises : Bool := false) : Host.Outcome State Fault Refusal :=
  .next (if s.inStream .writing then s.takeOverlayBytes data rises
    else s.portCommand rises fun s => s.takeOverlayBytes data rises)

/-- WRITE_OVERLAY_PARTIAL_BYTE (R157): at **CS#** rise, after the data bytes of the same transaction, if there were any. -/
def execWriteOverlayPartialByte (s : State) : Host.Outcome State Fault Refusal :=
  .next (if s.inStream .writing then (s.raise .portError).setPort .idle s.port.out
    else s.atRise fun s => s.raise .portError)

/-- The cursor after an overlay byte has been shifted out: it advances unless edit mode is on (R158). -/
def Cursor.afterRead (c : Cursor) (editing : Bool) : Cursor := if editing then c else c.advance

/-- The overlay bytes loaded at the end of the next `n` bytes, each with the cursor behind the byte shifted out, and the cursor
then (R158). -/
def overlayLoads (m : Memory) (editing : Bool) : Nat → Cursor → List Byte × Cursor
  | 0, c => ([], c)
  | n + 1, c =>
    let c' := c.afterRead editing
    let r := overlayLoads m editing n c'
    (m.read c'.address :: r.1, r.2)

/-- The bytes of a READ OVERLAY shifted out whole, each with the load that follows it (R158, R182). -/
def State.shiftOverlayBytes (s : State) (count : Nat) (rises : Bool) : State :=
  let r := overlayLoads s.port.overlay s.port.mark.isSome count s.port.cursor
  (s.setCursor r.2).setPort (PortPhase.reading.unlessRisen rises) (s.port.out ++ r.1)

/-- The load at the end of the opcode of a READ OVERLAY (R158). -/
def State.loadOverlay (s : State) : State :=
  s.setPort .reading (s.port.out ++ [s.port.overlay.read s.port.cursor.address])

/-- READ_OVERLAY (R158): in a READ OVERLAY in progress further bytes are shifted out; else it is the opcode and the bytes behind
it. -/
def execReadOverlay (count : Nat) (s : State) (rises : Bool := false) : Host.Outcome State Fault Refusal :=
  .next (if s.inStream .reading then s.shiftOverlayBytes count rises
    else s.portCommand rises fun s => s.loadOverlay.shiftOverlayBytes count rises)

/-- EDIT_BEGIN (R159): edit mode on, the mark at the cursor. -/
def execEditBegin (s : State) : Host.Outcome State Fault Refusal :=
  .next (s.atRise fun s => { s with port := { s.port with mark := some s.port.cursor } })

/-- EDIT_END (R159): the cursor at the mark, edit mode off; nothing when it is off already. -/
def execEditEnd (s : State) : Host.Outcome State Fault Refusal :=
  .next (s.atRise fun s =>
    match s.port.mark with
    | some c => { s with port := { s.port with cursor := c, mark := none } }
    | none => s)

/-- SET_DISPLAY (R154): all three settings, or PORT_ERROR. -/
def execSetDisplay (mode combine contrast : Byte) (s : State) : Host.Outcome State Fault Refusal :=
  .next (s.atRise fun s =>
    match parseDisplay mode combine contrast with
    | some d => { s with port := { s.port with display := d } }
    | none => s.raise .portError)

end Sys2Proof.Machine
end

