-- ==== Sys2Proof/Machine/ResetRows.lean ====
section
/-! DEFINITION. The resets: power-on, **RST#** and SOFT RESET (R13, R14, R60, R84, R111, R130, R146, R160, R166, R170, R183). -/

namespace Sys2Proof.Machine

/-- A port transaction ended by a reset: while **CS#** stays low nothing is taken (R185). -/
def PortPhase.afterReset : PortPhase → PortPhase
  | .idle => .idle
  | .opened | .finished | .writing | .reading | .waitRise => .waitRise

/-- The end of power-on or **RST#** (R13): the straps sampled (R1), every block at its reset values, both planes and the overlay
cleared, and the first frame started. The queue of commands is not the part's and is kept. -/
def State.coldReset (s : State) (pins : StrapPins) : State :=
  let r := State.afterReset (StrapPins.record pins)
  { r with port := { r.port with phase := s.port.phase.afterReset }, pending := s.pending }

/-- POWER_ON (R13). -/
def execPowerOn (pins : StrapPins) (s : State) : Host.Outcome State Fault Refusal := .next (s.coldReset pins)

/-- RST_RISING_EDGE (R1): the same effect as power-on. -/
def execRstRisingEdge (pins : StrapPins) (s : State) : Host.Outcome State Fault Refusal := .next (s.coldReset pins)

/-- **RST#** goes low (R13): all work in progress ends, **TBD** and **IRQ#** are released, no row is scanned, and the part is held.
The strap record stays until the rising edge samples the pins; the planes and the overlay keep their bytes until the reset ends. The
role pointer stays too: it becomes A with the clearing, the one change of the shown pixels that is no commit (R8, R13). DESIGN CHOICE
for what the spec leaves open between the two edges (log 8). -/
def State.assertReset (s : State) : State :=
  let r := State.afterReset s.straps
  { r with
    held := true
    members := { r.members with listenTimer := none }
    raster := { r.raster with planeA := s.raster.planeA, planeB := s.raster.planeB }
    barrier := { r.barrier with shown := s.barrier.shown }
    scan := { r.scan with timer := none }
    port := { r.port with phase := s.port.phase.afterReset, overlay := s.port.overlay }
    events := { flags := 0, mask := 0 }
    pending := s.pending }

/-- RST_ASSERTED (R13). -/
def execRstAsserted (s : State) : Host.Outcome State Fault Refusal := .next s.assertReset

/-! ### Soft reset -/

/-- Bits that pass before the break of a soft reset can start: the rest of an ack field (R60). -/
def TxPhase.breakWait : TxPhase → Nat
  | .acks position _ => Config.ackSlots - position
  | .breaking wait _ _ => wait
  | .sending _ | .closing _ _ => 0

/-- The Bus Interface at a soft reset (R42, R60): UNSYNCED with both run counts 0 and the ack of a reception not driven; a
transmission ends with a break and no outcome; the abort count is 0. -/
def Bus.softReset (b : Bus) : Bus :=
  { framing := Framing.lost
    tx := b.tx.map fun t => { t with phase := .breaking t.phase.breakWait Config.breakBits true }
    aborts := 0 }

/-- The part at a soft reset: every block at its soft-reset value at one instant (R183). -/
def State.softResetAll (s : State) : State :=
  { s with
    bus := s.bus.softReset
    stream := { s.stream with outbound := [], inbound := [], lastPost := .accepted }
    members :=
      { station := if s.members.station = .strapFault then .strapFault else .listening
        listenTimer := if s.members.station = .strapFault then none else some 0
        beaconTimer := none, hello := none, divergence := none }
    peers := peersAfterReset s.straps.n
    raster :=
      { s.raster with engine := .idle, issued := 0, digest := 0, history := [], mark := .partialPicture }
    barrier :=
      { s.barrier with slot := none, pending := none, timer := none, late := [], pendingVote := none }
    edge := { shift := none, outbox := [], inbox := [], timer := none }
    port := { s.port with cursor := { band := 0, column := 0 }, mark := none }
    watch := s.watch.map fun w => { w with firstHit := none }
    events := { s.events with flags := 0 } }

end Sys2Proof.Machine
end

