-- ==== Sys2Proof/Machine/SoftReset.lean ====
section
/-! DEFINITION. The SOFT_RESET row, which is a port command (R183). -/

namespace Sys2Proof.Machine

/-- SOFT_RESET (R183), taken at **CS#** rise. -/
def execSoftReset (s : State) : Host.Outcome State Fault Refusal := .next (s.atRise State.softResetAll)

end Sys2Proof.Machine
end

