-- ==== Sys2Proof/Machine/TimerRows.lean ====
section
/-! DEFINITION. The rows that the timers bring, and those of the raster work. An expiry happens while its timer runs (log 3). -/

namespace Sys2Proof.Machine

/-- LISTEN_TIMER_EXPIRY (R94): JOINING, with a JOIN pending; the outbox is checked at the change of state (R57). -/
def execListenTimerExpiry (s : State) : Host.Outcome State Fault Refusal :=
  .next (whenRunning s fun s =>
    if s.members.station = .listening ∧ s.members.listenTimer.isSome then
      (s.setStation .joining none s.members.beaconTimer (some .join)).recheckOutbox
    else s)

/-- BEACON_TIMER_EXPIRY (R99): a BEACON pending, the timer stopped. -/
def execBeaconTimerExpiry (s : State) : Host.Outcome State Fault Refusal :=
  .next (whenRunning s fun s =>
    if s.members.station = .member ∧ s.members.beaconTimer.isSome then
      s.setStation .member s.members.listenTimer none (some .beacon)
    else s)

/-- SILENCE_TIMEOUT (R90): a MEMBER entry becomes DROPPED with PEER_LEFT. -/
def execSilenceTimeout (peer : Station) (s : State) : Host.Outcome State Fault Refusal :=
  .next (whenRunning s fun s =>
    if s.inRoster peer ∧ (s.peer peer).silence.isSome then s.removePeer peer .dropped else s)

/-- The late set for t: the roster peers whose voted epoch is absent or before t (R122). -/
def State.lateFor (s : State) (t : Epoch) : List Station := s.roster.filter fun n => !votedFor (s.peer n).voted t

/-- BARRIER_TIMEOUT (R122): the late set, BARRIER_LATE, and an unaligned commit. With no barrier pending, as after a vote of the same
instant that completed the condition, nothing. -/
def execBarrierTimeout (s : State) : Host.Outcome State Fault Refusal :=
  .next (whenRunning s fun s =>
    match s.barrier.pending, s.barrier.timer with
    | some t, some _ =>
      State.commitNow ({ s with barrier := { s.barrier with late := s.lateFor t } }.raise .barrierLate)
    | _, _ => s)

/-- EDGE_TIMEOUT (R139): the wait in step AWAIT ends with a fill of 0. -/
def execEdgeTimeout (s : State) : Host.Outcome State Fault Refusal :=
  .next (whenRunning s fun s => if s.edge.timer.isSome then s.endEdgeWait else s)

/-- ROW_END (R148). -/
def execRowEnd (s : State) : Host.Outcome State Fault Refusal := .next (whenRunning s State.endRow)

/-- DRAW_PLANE_WRITE (R164): the next write of the record in progress. -/
def execDrawPlaneWrite (s : State) : Host.Outcome State Fault Refusal := .next (whenRunning s State.drawNext)

/-- COPY_COMPLETE (R124): the copy's writes up to the 864th have been made, and the PRESENT completes (log 17). -/
def execCopyComplete (s : State) : Host.Outcome State Fault Refusal := .next (whenRunning s State.finishCopy)

end Sys2Proof.Machine
end

