-- ==== Sys2Proof/Machine/Dispatch.lean ====
section
/-! DEFINITION. Every command's meaning, one arm for each row of spec/opcode_table.json, in the table's order. -/

namespace Sys2Proof.Machine

/-- A command's effect on everything but the queue. -/
def exec (i : Instr) (s : State) : Host.Outcome State Fault Refusal :=
  match i with
  | .powerOn pins => Sys2Proof.Machine.execPowerOn pins s
  | .rstRisingEdge pins => Sys2Proof.Machine.execRstRisingEdge pins s
  | .csFall edges => Sys2Proof.Machine.execCsFall s edges
  | .unknownOpcode opcode rises => Sys2Proof.Machine.execUnknownOpcode opcode s rises
  | .shortTransaction => Sys2Proof.Machine.execShortTransaction s
  | .readStatus rises => Sys2Proof.Machine.execReadStatus s rises
  | .readEvents rises => Sys2Proof.Machine.execReadEvents s rises
  | .readDivergence rises => Sys2Proof.Machine.execReadDivergence s rises
  | .readPeer index rises => Sys2Proof.Machine.execReadPeer index s rises
  | .readWatch entry rises => Sys2Proof.Machine.execReadWatch entry s rises
  | .post record => Sys2Proof.Machine.execPost record s
  | .clearEvents mask => Sys2Proof.Machine.execClearEvents mask s
  | .setMask mask => Sys2Proof.Machine.execSetMask mask s
  | .setWatch entry enabled x0 y0 x1 y1 => Sys2Proof.Machine.execSetWatch entry enabled x0 y0 x1 y1 s
  | .clearWatchHits selection => Sys2Proof.Machine.execClearWatchHits selection s
  | .setCursor band column => Sys2Proof.Machine.execSetCursor band column s
  | .writeOverlay data rises => Sys2Proof.Machine.execWriteOverlay data s rises
  | .writeOverlayPartialByte => Sys2Proof.Machine.execWriteOverlayPartialByte s
  | .readOverlay count rises => Sys2Proof.Machine.execReadOverlay count s rises
  | .editBegin => Sys2Proof.Machine.execEditBegin s
  | .editEnd => Sys2Proof.Machine.execEditEnd s
  | .setDisplay mode combine contrast => Sys2Proof.Machine.execSetDisplay mode combine contrast s
  | .softReset => Sys2Proof.Machine.execSoftReset s
  | .contend rivals => Sys2Proof.Machine.execContend rivals s
  | .selfDelivery => Sys2Proof.Machine.execSelfDelivery s
  | .ackFieldEnd slots => Sys2Proof.Machine.execAckFieldEnd slots s
  | .mismatch => Sys2Proof.Machine.execMismatch s
  | .transactionEnd => Sys2Proof.Machine.execTransactionEnd s
  | .canvasReceived m => Sys2Proof.Machine.execCanvasReceived m s
  | .voteReceived m => Sys2Proof.Machine.execVoteReceived m s
  | .edgeReceived m => Sys2Proof.Machine.execEdgeReceived m s
  | .beaconReceived m => Sys2Proof.Machine.execBeaconReceived m s
  | .joinReceived m => Sys2Proof.Machine.execJoinReceived m s
  | .leaveReceived m => Sys2Proof.Machine.execLeaveReceived m s
  | .badCrc bits => Sys2Proof.Machine.execBadCrc bits s
  | .breakSeen => Sys2Proof.Machine.execBreakSeen s
  | .lineEnd => Sys2Proof.Machine.execLineEnd s
  | .listenTimerExpiry => Sys2Proof.Machine.execListenTimerExpiry s
  | .beaconTimerExpiry => Sys2Proof.Machine.execBeaconTimerExpiry s
  | .silenceTimeout peer => Sys2Proof.Machine.execSilenceTimeout peer s
  | .barrierTimeout => Sys2Proof.Machine.execBarrierTimeout s
  | .edgeTimeout => Sys2Proof.Machine.execEdgeTimeout s
  | .rowEnd => Sys2Proof.Machine.execRowEnd s
  | .drawPlaneWrite => Sys2Proof.Machine.execDrawPlaneWrite s
  | .copyComplete => Sys2Proof.Machine.execCopyComplete s
  | .linePlaced => Sys2Proof.Machine.execLinePlaced s
  | .endFieldUnsynced => Sys2Proof.Machine.execEndFieldUnsynced s
  | .rstAsserted => Sys2Proof.Machine.execRstAsserted s

end Sys2Proof.Machine
end

