-- ==== Sys2Proof/WellFormed.lean ====
section
/-! DEFINITION. Which command terms stand for a row of the table. Every other term still has a meaning (log 12). -/

namespace Sys2Proof

/-- A received message has at most 160 payload bytes (R40, R44). -/
def Received.wf (m : Received) : Bool := decide (m.payload.length ≤ Config.maxPayload)

/-- The state field of a HELLO, when it has one (R92). -/
def Received.helloState (m : Received) : Option Byte := m.payload.head?

/-- The checks: an unknown opcode names no command (R176); a POST has arrived whole and carries no byte past its record
(R180); a message has at most 160 payload bytes (R40); a HELLO's row is the one its state field names (R92); and the bits of a
BAD_CRC are those of a message that a receiver discards (R44). -/
def Instr.wf : Instr → Bool
  | .unknownOpcode opcode _ => !knownOpcodes.contains opcode
  | .post r => decide (recordLength r = some r.length)
  | .canvasReceived m | .voteReceived m | .edgeReceived m => m.wf
  | .beaconReceived m => m.wf && decide (m.helloState ≠ some 2) && decide (m.helloState ≠ some 4)
  | .joinReceived m => m.wf && decide (m.helloState = some 2)
  | .leaveReceived m => m.wf && decide (m.helloState = some 4)
  | .badCrc bits => decide (decodeFrame bits = some (.badCrc bits))
  | .powerOn _ | .rstRisingEdge _ | .csFall _ | .shortTransaction | .readStatus _ | .readEvents _ | .readDivergence _
  | .readPeer _ _ | .readWatch _ _ | .clearEvents _ | .setMask _ | .setWatch _ _ _ _ _ _ | .clearWatchHits _ | .setCursor _ _
  | .writeOverlay _ _ | .writeOverlayPartialByte | .readOverlay _ _ | .editBegin | .editEnd | .setDisplay _ _ _ | .softReset
  | .contend _ | .selfDelivery | .ackFieldEnd _ | .mismatch | .transactionEnd | .breakSeen | .lineEnd
  | .listenTimerExpiry | .beaconTimerExpiry | .silenceTimeout _ | .barrierTimeout | .edgeTimeout | .rowEnd
  | .drawPlaneWrite | .copyComplete | .linePlaced | .endFieldUnsynced | .rstAsserted => true

end Sys2Proof
end

