-- ==== Sys2Proof/Safety.lean ====
section
/-! DEFINITION. What a sound state of the part is: the canonical planes, the bounds of its queues, and the shape of its tables.
Every command keeps each of the three; a state that a run from reset reaches has all. -/

namespace Sys2Proof.Machine

/-- The two main planes and the overlay are in the canonical form: 864 bytes each, nothing else (R5, R155). -/
structure State.PlanesSound (s : State) : Prop where
  planeA : s.raster.planeA.wf = true
  planeB : s.raster.planeB.wf = true
  overlay : s.port.overlay.wf = true

/-- A CANVAS transaction that has not completed a CRC field yet: its record is still to be self-delivered (R50, R73). -/
def Txn.owesDelivery (t : Txn) : Bool := decide (t.owner = .canvas) && !t.crcDone

/-- The queues hold no more than their places (R74, R78, R126, R133, R134), and a CANVAS transaction that has not been
self-delivered yet finds its place in the inbound queue (R56, R73). -/
structure State.QueuesSound (s : State) : Prop where
  outbound : s.stream.outbound.length ≤ Config.outboundPlaces
  inbound : s.stream.inbound.length ≤ Config.inboundPlaces
  outbox : s.edge.outbox.length ≤ Config.outboxPlaces
  inbox : s.edge.inbox.length ≤ Config.inboxPlaces
  history : s.raster.history.length ≤ Config.historyPlaces
  place : ∀ t, s.bus.tx = some t → t.owesDelivery = true → s.stream.inbound.length < Config.inboundPlaces

/-- A cursor names a byte of the overlay (R156). -/
def Cursor.inRange (c : Cursor) : Prop := c.band ≤ 5 ∧ c.column ≤ 143

/-- The tables and settings have their shape: a strap record of a wall up to 4 by 4 (R1); 16 peer entries, the own one SELF with
no silence timer and no E (R65, R87); 4 watch entries on the canvas (R162); a row of the tile (R148); a cursor and a mark in the
overlay (R156); a contrast up to 15 (R154); an abort count up to 4 (R54). -/
structure State.TablesSound (s : State) : Prop where
  width : 1 ≤ s.straps.w ∧ s.straps.w ≤ 4
  height : 1 ≤ s.straps.h ∧ s.straps.h ≤ 4
  peers : s.peers.length = 16
  ownEntry : (s.peer s.straps.n).state = .self ∧ (s.peer s.straps.n).silence = none
    ∧ (s.peer s.straps.n).expected = none
  watch : s.watch.length = 4
  bounds : ∀ w ∈ s.watch, w.x0 ≤ w.x1 ∧ w.x1 < s.straps.canvasWidth ∧ w.y0 ≤ w.y1 ∧ w.y1 < s.straps.canvasHeight
  row : s.scan.row ≤ 47
  cursor : s.port.cursor.inRange
  mark : ∀ c, s.port.mark = some c → c.inRange
  contrast : s.port.display.contrast ≤ 15
  aborts : s.bus.aborts ≤ Config.maxAborts

/-! ### Words the statements use -/

/-- The part runs and a port transaction has begun, its command not yet told apart (R172, R185). -/
def State.portOpen (s : State) : Prop := s.held = false ∧ s.port.phase = .opened

/-- **CS#** rises: the transaction ends (R172). -/
def State.portClosed (s : State) : State := { s with port := { s.port with phase := .idle } }

/-- The part runs, is not transmitting, and is inside a message or on an idle line: it follows another station's message to its
last CRC bit (R42, R45). -/
def State.follows (s : State) : Prop :=
  s.held = false ∧ s.bus.tx = none ∧ (s.bus.framing.stage = .frame ∨ s.bus.framing.stage = .idle)

/-- The part runs in MEMBER and follows a message of a station that is not itself and not FOREIGN (R45, R66, R107). -/
def State.memberHears (s : State) (m : Received) : Prop :=
  s.follows ∧ s.members.station = .member ∧ m.payload.length ≤ Config.maxPayload ∧ m.originator ≠ s.straps.n
    ∧ s.isForeign m.originator = false

/-- The part runs in LISTENING or JOINING and follows a message of a station that is not itself and not FOREIGN (R71). -/
def State.observerHears (s : State) (m : Received) : Prop :=
  s.follows ∧ (s.members.station = .listening ∨ s.members.station = .joining) ∧ m.payload.length ≤ Config.maxPayload
    ∧ m.originator ≠ s.straps.n ∧ s.isForeign m.originator = false

/-- A message of a class handed on at the end of its CRC field, its sender's silence timer restarted, and the ack slot to be driven or
not (R42, R46, R90). -/
def State.handed (s : State) (cls : MsgClass) (m : Received) (ack : Bool) : State :=
  (s.setFraming { s.bus.framing.ackField (lastRun (frameBits cls m)) with ackDue := ack }).setPeer m.originator Peer.heard

/-- The outbox check has nothing to do: the head, if any, is eligible, and a SHIFT in step CAPTURE waits for a place of a full
outbox, its strip being for another station (R57, R136). -/
def State.outboxSettled (s : State) : Prop :=
  (∀ r rest, s.edge.outbox = r :: rest → s.edgeEligible r = true) ∧
    ∀ x, s.edge.shift = some x → x.step = .capture →
      Config.outboxPlaces ≤ s.edge.outbox.length ∧ ∃ t, s.straps.target x.direction x.rotate = some t ∧ t ≠ s.straps.n.val

/-- Nothing waits for the roster or the station state to change: no barrier is pending, and the outbox check has nothing to do
(R57, R119). -/
def State.nothingWaits (s : State) : Prop := s.barrier.pending = none ∧ s.outboxSettled

/-- A run of DRAW_PLANE_WRITE commands. -/
def State.afterWrites : Nat → State → Option State
  | 0, s => some s
  | n + 1, s =>
    match exec .drawPlaneWrite s with
    | .next t => t.afterWrites n
    | .fault _ | .refused _ => none

/-- The write that the next DRAW_PLANE_WRITE issues, with the originator and sequence it carries (R26, R27, R137, R140); none while
the engine has none to issue. -/
def State.nextWrite (s : State) : Option (PlaneWrite × Station × Byte) :=
  if s.raster.engine = .applying then
    match s.edge.shift, s.stream.inbound with
    | some x, _ =>
      match x.step with
      | .move => some (moveWrite x.direction x.k s.drawPlane s.raster.issued, x.originator, x.seq)
      | .fill => some (fillWrite x.direction x.k (x.strip.getD []) s.raster.issued, x.originator, x.seq)
      | .capture | .await => none
    | none, r :: _ =>
      (parseOp s.straps r.bytes).bind fun op =>
        (op.pixelWrite s.straps s.raster.issued).map fun p => (p.onPlane s.drawPlane, r.originator, r.seq)
    | none, [] => none
  else none

/-- The commit condition for t: V and the voted epoch of every roster peer are at or after t (R119). -/
def State.voteDone (s : State) (t : Epoch) : Prop :=
  epochAtOrAfter s.barrier.voted t = true ∧
    ∀ n, s.inRoster n = true → ∃ v, (s.peer n).voted = some v ∧ epochAtOrAfter v t = true

/-- The completion of the head record r, with `rest` left behind it (R31, R80, R144); the take of the next record is `settle`. -/
def State.completed (s : State) (r : InRecord) (rest : List InRecord) : State :=
  { s with
    peers := s.peers.modify r.originator.val fun p => { p with applied := some r.seq }
    stream := { s.stream with inbound := rest }
    raster := { s.raster with engine := .idle, issued := 0 }
    edge :=
      { s.edge with
        shift := none
        inbox := s.edge.inbox.filter fun e => decide (e.originator ≠ r.originator ∨ seqAfter e.seq r.seq = true) }
    members := if s.members.station = .outOfStep ∧ rest = [] then { s.members with hello := some .leave } else s.members }

/-- What waited in s for the station to stay MEMBER is over in t (R35). A wait for a strip has ended with EDGE_TIMEOUT and a fill of 0
(R139). The PRESENT that the engine held in AWAIT_BARRIER has committed, with COMMIT and FRAME: one of mode SWAP_COPY is copied, one of
mode SWAP is complete, and the engine has gone on to the records behind it (R121, R123). The engine holds one record, so the two do not
meet (R24). -/
def State.waitsOver (s t : State) : Prop :=
  (∀ x, s.edge.shift = some x → x.step = .await → s.barrier.pending = none → t.flagSet .edgeTimeout = true ∧
    t.edge.shift = some { x with step := .fill, strip := none } ∧ t.edge.timer = none ∧
    t.raster = { s.raster with engine := .applying, issued := 0 }) ∧
  ∀ b r rest copy, s.barrier.pending = some b → s.raster.engine = .awaitBarrier → s.edge.shift = none →
    s.stream.inbound = r :: rest → parseOp s.straps r.bytes = some (.present copy) →
    t.flagSet .commit = true ∧ t.flagSet .frame = true ∧ t.raster.engine ≠ .awaitBarrier ∧
    (copy = true ∨ rest = [] →
      t.barrier.committed = b ∧ t.barrier.shown = s.barrier.shown.other ∧ t.barrier.timer = none) ∧
    (copy = true → t.raster = { s.raster with engine := .copying, issued := 0 } ∧ t.stream.inbound = r :: rest) ∧
    (copy = false → t.stream.inbound <:+ rest ∧ (rest = [] → t.raster.engine = .idle))

/-- All that the instant does at which the station leaves MEMBER: u has the new station state, and t is u after it. The outbox is
emptied, with EDGE_LOST if it held a record; a capture that waited for a place is made, and its record is discarded the same way (R57,
R136); a wait for a strip ends with a fill of 0 and EDGE_TIMEOUT (R139); and a pending barrier commits (R121, R123, R150). -/
def State.endsWaits (u t : State) : Prop :=
  ∀ (moved : Option Shift) (lost : Bool) (o : State),
    ((∀ x, u.edge.shift = some x → x.step ≠ .capture) → moved = u.edge.shift) →
    (∀ x, u.edge.shift = some x → x.step = .capture → moved = some { x with
      step := .move
      strip := if u.straps.target x.direction x.rotate = some u.straps.n.val then some (captureStrip x.direction x.k u.drawPlane)
        else x.strip }) →
    (lost = true ↔ u.edge.outbox ≠ [] ∨ ∃ x n, u.edge.shift = some x ∧ x.step = .capture ∧
      u.straps.target x.direction x.rotate = some n ∧ n ≠ u.straps.n.val) →
    o = { u with
      edge := { u.edge with outbox := [], shift := moved }
      events := { u.events with flags := (if lost = true then u.events.flags ||| Event.edgeLost.bit else u.events.flags) } } →
    (u.barrier.pending = none → (∀ x, moved = some x → x.step ≠ .await) → t = o) ∧
    (u.barrier.pending = none → ∀ x, moved = some x → x.step = .await → t = { o with
      edge := { o.edge with shift := some { x with step := .fill, strip := none }, timer := none }
      raster := { o.raster with engine := .applying, issued := 0 }
      events := { o.events with flags := o.events.flags ||| Event.edgeTimeout.bit } }) ∧
    ∀ b r rest copy, u.barrier.pending = some b → (∀ x, moved = some x → x.step ≠ .await) → u.stream.inbound = r :: rest →
      parseOp u.straps r.bytes = some (.present copy) → ∀ (c : Barrier) (v : State),
      c = { u.barrier with shown := u.barrier.shown.other, committed := b, timer := none, pending := none } →
      v = { o with
        barrier := c
        scan := { row := 0, timer := some 0, out := State.formRow { o with barrier := c } 0 }
        events := { o.events with flags := o.events.flags ||| Event.frame.bit ||| Event.commit.bit } } →
      (copy = true → t = { v with raster := { v.raster with engine := .copying, issued := 0 } }) ∧
      (copy = false → t = (v.completed r rest).settle)

end Sys2Proof.Machine
end

