-- ==== Sys2Proof/Certificates/Slice0/Obligations.lean ====
section
/-! DEFINITION. The statements about the GW144, for the provers. -/

open Sys2Proof Sys2Proof.Machine

/-! ### The machine -/

/-- A step takes the command at the front of the queue and answers what that command does on the rest of the state. The one queue for
port commands, bus events and timers is the model's, not the part's (the model's choice, log 1). -/
def Obligations.StepRunsFront : Prop :=
  ∀ (c : Instr) (rest : List Instr) (s : State), s.pending = c :: rest → step s = exec c { s with pending := rest }

/-- A command leaves the queue of the commands that are waiting as it is. The queue is no part of the hardware, so that power-on,
**RST#** and soft reset keep it too (the model's choice, log 1, and for RST_ASSERTED log 8). -/
def Obligations.CommandsLeaveQueue : Prop := ∀ (c : Instr) (s t : State), exec c s = .next t → t.pending = s.pending

/-- An empty queue (the model's choices, logs 4, 16 and 26). A held part stands still. In a running one, a timer at its limit puts its
row in the queue, one row and no time; with none there one bit time passes in which nobody else drives the line. Every running timer
counts it. The station reads what it drives itself: its ack slot, a bit of its message, a break. Its framing follows that bit (R42), and
a message it sends moves one bit on, one ack slot, one end bit or one break bit (R50, R51, R52); in a message the line coding keeps both
run counts at 8 or less (R39). Where the bit completes something, its row is put in the queue and will move the stage. Then the row of
a contention, of a write that waits, and of a copy at its last write; a copy issues one write (R7, R48, R124). All else stays. -/
def Obligations.EmptyQueuePassesBitTime : Prop :=
  ∀ s : State, s.pending = [] →
    (s.held = true → step s = .next s) ∧
    (s.held = false → ∀ due : Instr → Prop,
      (∀ i, due i ↔
        (i = .rowEnd ∧ ∃ a, s.scan.timer = some a ∧ 1000 ≤ a) ∨
        (i = .listenTimerExpiry ∧ s.members.station = .listening ∧ ∃ a, s.members.listenTimer = some a ∧ 750000 ≤ a) ∨
        (i = .beaconTimerExpiry ∧ s.members.station = .member ∧ ∃ a, s.members.beaconTimer = some a ∧ 300000 ≤ a) ∨
        (∃ n, i = .silenceTimeout n ∧ s.inRoster n = true ∧ ∃ a, (s.peer n).silence = some a ∧ 1200000 ≤ a) ∨
        (i = .barrierTimeout ∧ s.barrier.pending ≠ none ∧ ∃ a, s.barrier.timer = some a ∧ 600000 ≤ a) ∨
        (i = .edgeTimeout ∧ (∃ x, s.edge.shift = some x ∧ x.step = .await) ∧ ∃ a, s.edge.timer = some a ∧ 150000 ≤ a)) →
      ((∃ i, due i) → ∃ row, due row ∧ step s = .next { s with pending := [row] }) ∧
      ((∀ i, ¬ due i) → ∃ (t : State) (line : List Instr), step s = .next t ∧
        t.straps = s.straps ∧ t.held = false ∧ t.stream = s.stream ∧ t.members.station = s.members.station ∧
        t.members.hello = s.members.hello ∧ t.members.divergence = s.members.divergence ∧
        t.members.listenTimer = s.members.listenTimer.map (· + s.straps.bitUnits) ∧
        t.members.beaconTimer = s.members.beaconTimer.map (· + s.straps.bitUnits) ∧
        (∀ n, t.peer n = { s.peer n with silence := (s.peer n).silence.map (· + s.straps.bitUnits) }) ∧
        t.barrier = { s.barrier with timer := s.barrier.timer.map (· + s.straps.bitUnits) } ∧
        t.edge = { s.edge with timer := s.edge.timer.map (· + s.straps.bitUnits) } ∧
        t.scan = { s.scan with timer := s.scan.timer.map (· + s.straps.bitUnits) } ∧
        s.straps.bitUnits = (if s.straps.fast = true then 3 else 12) ∧
        t.port = s.port ∧ t.watch = s.watch ∧ t.events = s.events ∧ t.bus.aborts = s.bus.aborts ∧
        t.pending = line
          ++ (if t.bus.tx = none ∧ t.bus.framing.stage = .idle ∧ t.bus.framing.requiredGap ≤ t.bus.framing.gap ∧
              t.candidate ≠ none then [.contend []] else [])
          ++ (if s.raster.engine = .applying ∧ (∀ x, s.edge.shift = some x → x.step = .move ∨ x.step = .fill)
              then [.drawPlaneWrite] else [])
          ++ (if s.raster.engine = .copying ∧ 864 ≤ t.raster.issued + 1 then [.copyComplete] else []) ∧
        (s.raster.engine ≠ .copying ∨ 864 ≤ s.raster.issued + 1 → t.raster = s.raster) ∧
        (s.raster.engine = .copying → s.raster.issued + 1 < 864 →
          t.raster = { s.raster with issued := s.raster.issued + 1, planeA := t.raster.planeA, planeB := t.raster.planeB } ∧
          t.shownPlane = s.shownPlane ∧ (s.drawPlane.wf = true → ∀ a, t.drawPlane.read a =
            if a = s.raster.issued then s.shownPlane.read a else s.drawPlane.read a)) ∧
        ∀ f : Framing, f = s.bus.framing →
          (s.bus.tx = none → t.bus.tx = none ∧
            (f.stage = .unsynced → f.recRun + 1 < 32 → line = [] ∧ t.bus.framing = { f with recRun := f.recRun + 1, domRun := 0 }) ∧
            (f.stage = .unsynced → 32 ≤ f.recRun + 1 → line = [.linePlaced] ∧ t.bus.framing = f) ∧
            (f.stage = .idle → line = [] ∧ t.bus.framing = { f with recRun := f.recRun + 1, domRun := 0, gap := f.gap + 1 }) ∧
            (f.stage = .frame → line = (decodeFrame (f.bits ++ [true])).toList ∧
              t.bus.framing = { f with recRun := f.recRun + 1, domRun := 0, bits := f.bits ++ [true] }) ∧
            (f.stage = .ack → line = [] ∧ t.bus.framing = { f with
              stage := if f.position + 1 < 16 then .ack else .ending
              position := if f.position + 1 < 16 then f.position + 1 else 0
              domRun := if f.position + 1 < 16 then f.domRun else 0
              recRun := if s.drivesTbd = true then 0 else f.recRun + 1
              ackDue := f.ackDue && !decide (f.position = s.straps.n.val) }) ∧
            (f.stage = .ack → (s.drivesTbd = true ↔ f.ackDue = true ∧ f.position = s.straps.n.val ∧
              s.members.station ≠ .strapFault ∧ s.members.station ≠ .busFault)) ∧
            (f.stage ≠ .ack → s.drivesTbd = false) ∧
            (f.stage = .ending → f.position + 1 < 7 →
              line = [] ∧ t.bus.framing = { f with recRun := f.recRun + 1, domRun := 0, position := f.position + 1 }) ∧
            (f.stage = .ending → 7 ≤ f.position + 1 → line = [.lineEnd] ∧ t.bus.framing = f) ∧
            (f.stage = .break → line = [.linePlaced] ∧ t.bus.framing = f)) ∧
          ∀ x, s.bus.tx = some x → s.members.station ≠ .strapFault → s.members.station ≠ .busFault →
            (∀ (p : Nat) (bit : Bool), x.phase = .sending p → (s.attemptBits x)[p]? = some bit →
              (p + 1 < 42 + 8 * x.payload.length → line = [] ∧ t.bus.tx = some { x with phase := .sending (p + 1) } ∧
                t.bus.framing = f.follow (.coded (!bit)) ∧
                (bit = false → p = 0 → (f.stage = .idle ∨ f.stage = .ending ∧ f.position = 0) →
                  t.bus.framing = { f with stage := .frame, recRun := 0, domRun := 1, gap := 0, requiredGap := 11, position := 0
                                           bits := [false], ackDue := false }) ∧
                (f.stage = .frame → f.domRun ≤ 8 → f.recRun ≤ 8 → (f.domRun = 0 ∨ f.recRun = 0) →
                  t.bus.framing = { f with bits := f.bits ++ [bit], domRun := t.bus.framing.domRun, recRun := t.bus.framing.recRun } ∧
                  t.bus.framing.domRun ≤ 8 ∧ t.bus.framing.recRun ≤ 8 ∧
                  (t.bus.framing.domRun = 0 ∨ t.bus.framing.recRun = 0) ∧
                  (s.drivesTbd = true → t.bus.framing.domRun = f.domRun + 1) ∧
                  (s.drivesTbd = false → t.bus.framing.recRun = f.recRun + 1) ∧
                  (bit = false → f.domRun < 8 → s.drivesTbd = true) ∧
                  (bit = true → f.recRun < 8 → s.drivesTbd = false))) ∧
              (p + 1 = 42 + 8 * x.payload.length → x.owner = .canvas → x.crcDone = false →
                line = [.selfDelivery] ∧ t.bus = s.bus) ∧
              (p + 1 = 42 + 8 * x.payload.length → (x.owner ≠ .canvas ∨ x.crcDone = true) → line = [] ∧
                t.bus.tx = some { x with crcDone := true, phase := .acks 0 [] } ∧
                t.bus.framing = { f with stage := .ack, position := 0, bits := [], domRun := 0
                                         recRun := lastRun (s.attemptBits x) })) ∧
            (∀ p slots, x.phase = .acks p slots → s.drivesTbd = false ∧
              (p + 1 = 16 → line = [.ackFieldEnd slots] ∧ t.bus = s.bus) ∧
              (p + 1 ≠ 16 → line = [] ∧ t.bus.tx = some { x with phase := .acks (p + 1) slots } ∧
                t.bus.framing = f.follow .released)) ∧
            (∀ p complete, x.phase = .closing p complete → s.drivesTbd = false ∧
              (p + 1 = 7 → line = [.transactionEnd] ∧ t.bus = s.bus) ∧
              (p + 1 ≠ 7 → line = [] ∧ t.bus.tx = some { x with phase := .closing (p + 1) complete } ∧
                t.bus.framing = f.follow .released)) ∧
            ∀ wait left soft, x.phase = .breaking wait left soft → s.drivesTbd = decide (wait = 0) ∧
              (wait ≠ 0 → line = [] ∧ t.bus.tx = some { x with phase := .breaking (wait - 1) left soft } ∧
                t.bus.framing = f.follow .released) ∧
              (wait = 0 → left ≤ 1 → line = [.transactionEnd] ∧ t.bus = s.bus) ∧
              (wait = 0 → 1 < left → line = [] ∧ t.bus.tx = some { x with phase := .breaking 0 (left - 1) soft } ∧
                t.bus.framing = f.follow .held)))

/-! ### Encodings -/

/-- The bytes of a port command on **SDI** spell that command again, with every parameter at every value, and so do their bits, the
most significant of each byte first (R172, R175, R180, R187, 11.9). -/
def Obligations.PortBytesSpellCommand : Prop :=
  ∀ (c : Instr) (bytes : List Byte), c.wf = true → encodeTransaction c = some bytes →
    decodeTransaction bytes 0 = [c] ∧ decodeSdi (bytes.flatMap fieldBits) = [c]

/-- The bits of an attempt, start bit to last CRC bit, are read as the reception they carry, with every field at every value, and
no shorter run of them hands anything on (R40, R41, R44, R45). A HELLO whose state field names no kind is carried by BEACON_RECEIVED
(the model's choice, log 12). -/
def Obligations.MessageBitsSpellReception : Prop :=
  ∀ (c : Instr) (bits : List Bool), c.wf = true → encodeReception c = some bits →
    decodeFrame bits = some c ∧ ∀ k, k < bits.length → decodeFrame (bits.take k) = none

/-- A HELLO payload is read back as it was sent, with the length of its kind and its state code first; and so is the EDGE payload
of a captured strip, for every direction and k 1..8. The captured strip holds the tile's leading columns byte by byte, bands 0..5 in
each, or its leading rows, strip row i in bit i of the byte of each column and 0 in bits k..7 (R92, R135, R136, R142, 11.5, 11.6). -/
def Obligations.PayloadsAreReadBack : Prop :=
  (∀ h : Hello, parseHello (encodeHello h) = some h ∧
    (encodeHello h).head? = some (match h with | .join _ _ => 2 | .beacon _ _ _ _ _ _ => 3 | .leave _ => 4) ∧
    (encodeHello h).length = (match h with | .join _ _ => 6 | .beacon _ _ _ _ _ _ => 13 | .leave _ => 2)) ∧
  ∀ (o : Station) (q : Byte) (d : Direction) (k : Nat) (t : Station) (m : Memory), 1 ≤ k → k ≤ 8 →
    parseEdge (encodeEdge { originator := o, seq := q, direction := d, k := k, target := t, data := captureStrip d k m }) =
      some { originator := o, seq := q, direction := d, k := k, target := t, data := captureStrip d k m } ∧
    (encodeEdge { originator := o, seq := q, direction := d, k := k, target := t, data := captureStrip d k m }).length =
      (if d = .left ∨ d = .right then 5 + 6 * k else 149) ∧
    (d = .left → ∀ j b, j < k → b < 6 → (captureStrip d k m)[6 * j + b]? = some (m.read (144 * b + j))) ∧
    (d = .right → ∀ j b, j < k → b < 6 → (captureStrip d k m)[6 * j + b]? = some (m.read (144 * b + (144 - k + j)))) ∧
    (d = .up → ∀ c, c < 144 → ∃ v, (captureStrip d k m)[c]? = some v ∧
      ∀ i, i < 8 → v.getLsbD i = (decide (i < k) && (m.read c).getLsbD i)) ∧
    (d = .down → ∀ c, c < 144 → ∃ v, (captureStrip d k m)[c]? = some v ∧
      ∀ i, i < 8 → v.getLsbD i = (decide (i < k) && (m.read (144 * 5 + c)).getLsbD (8 - k + i)))

/-- The check register starts at all ones. Each bit shifts it by one towards its high end, and the bit that leaves, if it differs from
the bit shifted in, is fed back at the places of 1, x^5 and x^12: the generator x^16 + x^12 + x^5 + 1. Its content over the fields from
the class to the payload is the CRC field of an attempt, most significant bit first, not inverted. One bit of the covered fields
changed changes the check (R41, R188). -/
def Obligations.CrcTellsOneBit : Prop :=
  (∀ i, i < 16 → (crc16 []).getLsbD i = true) ∧
  (∀ (bits : List Bool) (b : Bool) (i : Nat), i < 16 → (crc16 (bits ++ [b])).getLsbD i =
    ((decide (1 ≤ i) && (crc16 bits).getLsbD (i - 1)) ^^
      (decide (i = 0 ∨ i = 5 ∨ i = 12) && ((crc16 bits).getLsbD 15 ^^ b)))) ∧
  (∀ (cls : MsgClass) (m : Received) (covered : List Bool), (frameBits cls m).length = 42 + 8 * m.payload.length ∧
    (covered = ((frameBits cls m).drop 1).take (25 + 8 * m.payload.length) →
      ∀ i, i < 16 → (frameBits cls m)[26 + 8 * m.payload.length + i]? = some ((crc16 covered).getLsbD (15 - i)))) ∧
  ∀ (before after : List Bool) (b : Bool), crc16 (before ++ [b] ++ after) ≠ crc16 (before ++ [!b] ++ after)

/-- Arbitration on the line: a station is left at the end exactly when no contender's arbitration field is below its own (R49). -/
def Obligations.LowestArbitrationFieldWins : Prop :=
  ∀ (v : BitVec 6) (rivals : List (BitVec 6)),
    arbitrate (fieldBits v) (rivals.map fieldBits) = true ↔ ∀ r ∈ rivals, v.toNat ≤ r.toNat

/-! ### Invariants and whole-machine rules -/

/-- Every step keeps the two main planes and the overlay in the canonical form: addresses rising and below 864, no entry 0. A plane's
bytes and their addresses are the spec's (R5, R6, R155); that they are kept as such a list is the model's choice (log 9). -/
def Obligations.StepKeepsPlanesSound : Prop := ∀ s t : State, s.PlanesSound → step s = .next t → t.PlanesSound

/-- Every step keeps the queues within their places (R74, R78, R126, R133, R134), and the place of a CANVAS transaction free until
its record is self-delivered (R73). -/
def Obligations.StepKeepsQueuesSound : Prop := ∀ s t : State, s.QueuesSound → step s = .next t → t.QueuesSound

/-- Every step keeps the shape of the tables and settings: the strap record, the peer table with the own entry SELF, the watch
table on the canvas, the row, the cursor, the contrast and the abort count (R1, R54, R65, R87, R148, R154, R156, R162). -/
def Obligations.StepKeepsTablesSound : Prop := ∀ s t : State, s.TablesSound → step s = .next t → t.TablesSound

/-- The state after power-on or **RST#** has the reset value of every block (R1, R13, R59, R83, R86, R110, R129, R146, R160, R166,
R170, R185) and is sound in all three ways, whatever the strap pins; it is the same whatever went before, but
for a **CS#** that is still low and for the waiting commands, which are no part of the hardware (the model's choice, log 1); and
State.reset is that of all pins low, since the spec gives the pins no value (the model's choice, log 6). That FRAME is set and row 0
formed in it is read from R160 and R170 (log 24). -/
def Obligations.ResetIsSound : Prop :=
  (∀ g : Straps, State.afterReset g =
    { straps := g, held := false, pending := []
      bus := { tx := none, aborts := 0
               framing := { stage := .unsynced, recRun := 0, domRun := 0, gap := 0, requiredGap := 11, position := 0, bits := []
                            ackDue := false } }
      stream := { outbound := [], inbound := [], counter := 0, epoch := 0, lastPost := .accepted }
      members := { station := if g.n.val < g.w * g.h then .listening else .strapFault
                   listenTimer := if g.n.val < g.w * g.h then some 0 else none
                   beaconTimer := none, hello := none, divergence := none }
      peers := stations.map fun n => { state := if n = g.n then .self else .absent, silence := none, expected := none
                                       applied := none, voted := none, diverged := false }
      raster := { planeA := [], planeB := [], engine := .idle, issued := 0, digest := 0, history := [], mark := .partialPicture }
      barrier := { shown := .a, committed := 0, voted := 0, slot := none, pending := none, timer := none, late := []
                   pendingVote := none }
      edge := { shift := none, outbox := [], inbox := [], timer := none }
      scan := { row := 0, timer := some 0, out := .notSelected }
      port := { phase := .idle, out := [], overlay := [], cursor := { band := 0, column := 0 }, mark := none
                display := { mode := .off, combine := .none, contrast := 8 } }
      watch := List.replicate 4 { enabled := false, x0 := 0, y0 := 0, x1 := 0, y1 := 0, firstHit := none }
      events := { flags := Event.frame.bit, mask := 0 } }) ∧
  (∀ pins : StrapPins, (State.afterReset (StrapPins.record pins)).PlanesSound ∧
    (State.afterReset (StrapPins.record pins)).QueuesSound ∧ (State.afterReset (StrapPins.record pins)).TablesSound ∧
    ∀ s t : State,
      t = { State.afterReset (StrapPins.record pins) with
        pending := s.pending
        port := { (State.afterReset (StrapPins.record pins)).port with
                  phase := if s.port.phase = .idle then .idle else .waitRise } } →
      exec (.powerOn pins) s = .next t ∧ exec (.rstRisingEdge pins) s = .next t) ∧
  State.reset = State.afterReset (StrapPins.record { stn := 0, tw := 0, th := 0, rate := false })

/-- The Raster Engine is the one block that writes the main planes, and it writes the draw plane: both keep every byte under every
command but a draw-plane write, the end of a copy, power-on and the end of **RST#**, and under the first two the plane that was
shown before keeps every byte. The role pointer changes only at a commit, which raises COMMIT, and with the clearing: so the shown pixels
change by nothing else (R6, R8, R13, R123). That planes and pointer stay at the falling edge of **RST#** too, until the rising edge, is
the model's choice (log 8). -/
def Obligations.OnlyTheEngineWritesTheDrawPlane : Prop :=
  ∀ (c : Instr) (s t : State), exec c s = .next t → (∀ p, c ≠ .powerOn p) → (∀ p, c ≠ .rstRisingEdge p) →
    t.plane s.barrier.shown = s.shownPlane ∧
    (c ≠ .drawPlaneWrite → c ≠ .copyComplete → t.plane s.barrier.shown.other = s.drawPlane) ∧
    (t.barrier.shown = s.barrier.shown ∧ t.shownPlane = s.shownPlane ∨ t.flagSet .commit = true)

/-- A flag once set stays set under every command but CLEAR EVENTS, soft reset, power-on and **RST#** (R167). -/
def Obligations.FlagsAreSticky : Prop :=
  ∀ (c : Instr) (s t : State) (e : Event), exec c s = .next t → (∀ m, c ≠ .clearEvents m) → c ≠ .softReset →
    (∀ p, c ≠ .powerOn p) → (∀ p, c ≠ .rstRisingEdge p) → c ≠ .rstAsserted → s.flagSet e = true → t.flagSet e = true

/-- What the local host sets changes by its own commands and by power-on and **RST#** alone: the overlay by WRITE OVERLAY, the
display settings by SET DISPLAY, the mask by SET MASK, the watch rectangles by SET WATCH (R154, R155, R163, R169); and the strap
record by power-on and the end of **RST#** alone (R1). That the overlay and the strap record stand through the falling edge of **RST#**
until the rising edge is the model's choice (log 8). -/
def Obligations.HostSettingsKeepTheirOwners : Prop :=
  ∀ (c : Instr) (s t : State), exec c s = .next t → (∀ p, c ≠ .powerOn p) → (∀ p, c ≠ .rstRisingEdge p) →
    t.straps = s.straps ∧
    ((∀ d r, c ≠ .writeOverlay d r) → t.port.overlay = s.port.overlay) ∧
    (c ≠ .rstAsserted → (∀ m k q, c ≠ .setDisplay m k q) → t.port.display = s.port.display) ∧
    (c ≠ .rstAsserted → (∀ m, c ≠ .setMask m) → t.events.mask = s.events.mask) ∧
    (c ≠ .rstAsserted → (∀ e n a b x y, c ≠ .setWatch e n a b x y) →
      t.watch.map (fun w => (w.enabled, w.x0, w.y0, w.x1, w.y1)) =
        s.watch.map (fun w => (w.enabled, w.x0, w.y0, w.x1, w.y1)))

/-- A station decides to drive its ack slot only in MEMBER (R46, R67, R85, R96, R116, R142). -/
def Obligations.AcksAreDecidedInMember : Prop :=
  ∀ (c : Instr) (s t : State), exec c s = .next t → s.bus.framing.ackDue = false → t.bus.framing.ackDue = true →
    s.members.station = .member

/-- The own sequence counter moves by one at the self-delivery of a CANVAS record, returns to 0 at power-on and **RST#**, and
otherwise keeps its value through every command, soft reset included (R63, R84). The end of an ack field stands for the CRC
completion before it when that was not told (log 14). -/
def Obligations.CounterMovesAtSelfDelivery : Prop :=
  (∀ (c : Instr) (s t : State), exec c s = .next t → (∀ p, c ≠ .powerOn p) → (∀ p, c ≠ .rstRisingEdge p) → c ≠ .rstAsserted →
    t.stream.counter = s.stream.counter ∨
      (t.stream.counter = s.stream.counter + 1 ∧ (c = .selfDelivery ∨ ∃ l, c = .ackFieldEnd l) ∧
        ∃ x p, s.bus.tx = some x ∧ x.owner = .canvas ∧ x.crcDone = false ∧ x.phase = .sending p)) ∧
  ∀ (c : Instr) (s t : State), exec c s = .next t → ((∃ p, c = .powerOn p) ∨ (∃ p, c = .rstRisingEdge p) ∨ c = .rstAsserted) →
    t.stream.counter = 0

/-! ### Resets -/

/-- Power-on and the end of **RST#** end the record in progress without completing it, put the engine in IDLE, empty the inbound
queue, make A absent in all 16 entries and clear both main planes. -/
def Obligations.ResetEndsRecordInProgress : Prop :=
  ∀ (pins : StrapPins) (s : State), ∃ t, exec (.powerOn pins) s = .next t ∧ exec (.rstRisingEdge pins) s = .next t ∧
    t.raster.engine = .idle ∧ t.stream.inbound = [] ∧ (∀ n, (t.peer n).applied = none) ∧
    ∀ c r, t.raster.planeA.pixel c r = false ∧ t.raster.planeB.pixel c r = false

/-- Power-on and the end of **RST#** put the Membership Unit in its reset state: own entry SELF and the other 15 ABSENT, every
silence timer stopped, every diverged mark no, no divergence record, no HELLO pending, the beacon timer stopped; a station that
then enters LISTENING starts its listen timer, and a station whose number is W×H or more is in STRAP_FAULT with it stopped. -/
def Obligations.ResetMembership : Prop :=
  ∀ (pins : StrapPins) (s : State), ∃ t, exec (.powerOn pins) s = .next t ∧ exec (.rstRisingEdge pins) s = .next t ∧
    t.straps = { n := pins.stn.toFin, w := pins.tw.toNat + 1, h := pins.th.toNat + 1, fast := pins.rate } ∧
    (∀ n, (t.peer n).state = (if n = t.straps.n then .self else .absent) ∧ (t.peer n).silence = none ∧
      (t.peer n).diverged = false) ∧
    t.members.divergence = none ∧ t.members.hello = none ∧ t.members.beaconTimer = none ∧
    (t.members.station, t.members.listenTimer) =
      (if t.straps.n.val < t.straps.w * t.straps.h then (.listening, some 0) else (.strapFault, none))

/-- **RST#** going low ends all work, empties every queue and box, stops every timer and releases the outputs. The planes, the role
pointer, the overlay and the strap record keep their values until the rising edge. While it is low no time passes for the part, and
every command but the resets leaves it as it is, but for whether **CS#** is low (the model's choices for the time between, log 8). -/
def Obligations.AssertedResetHoldsThePart : Prop :=
  (∀ s : State, ∃ t, exec .rstAsserted s = .next t ∧ t.held = true ∧ t.straps = s.straps ∧ t.pending = s.pending ∧
    t.raster.planeA = s.raster.planeA ∧ t.raster.planeB = s.raster.planeB ∧ t.port.overlay = s.port.overlay ∧
    t.barrier.shown = s.barrier.shown ∧ t.shownPlane = s.shownPlane ∧
    t.raster.engine = .idle ∧ t.stream.inbound = [] ∧ t.stream.outbound = [] ∧ t.bus.tx = none ∧ t.drivesTbd = false ∧
    t.edge = { shift := none, outbox := [], inbox := [], timer := none } ∧ t.barrier.pending = none ∧ t.barrier.slot = none ∧
    t.barrier.pendingVote = none ∧ t.barrier.timer = none ∧ t.barrier.late = [] ∧ t.members.hello = none ∧
    t.members.listenTimer = none ∧ t.members.beaconTimer = none ∧ t.members.divergence = none ∧
    (∀ n, (t.peer n).silence = none ∧ (t.peer n).expected = none ∧ t.inRoster n = false) ∧ t.bus.framing.ackDue = false ∧
    t.raster.history = [] ∧ t.events = { flags := 0, mask := 0 } ∧ t.port.mark = none ∧
    t.irqLow = false ∧ (∀ i, t.sdoByte i = none) ∧ t.scan.timer = none ∧ t.scan.out = .notSelected ∧
    step { t with pending := [] } = .next { t with pending := [] }) ∧
  ∀ (c : Instr) (s : State), s.held = true → (∀ p, c ≠ .powerOn p) → (∀ p, c ≠ .rstRisingEdge p) → c ≠ .rstAsserted →
    ∃ phase : PortPhase, exec c s = .next { s with port := { s.port with phase := phase } } ∧
      (phase = s.port.phase ∨ phase = .idle ∨ phase = .waitRise)

/-- A soft reset sets every block to its soft-reset value at one instant, keeps what the spec keeps, and completes the port
transaction (R183, R184). The framing stage is UNSYNCED with both run counts 0, and a transmission breaks (R42, R60). A break in
progress, which a soft reset makes its own, is sent again whole (the model's choice, log 19). -/
def Obligations.SoftResetClearsEveryBlock : Prop :=
  ∀ s : State, s.portOpen → ∃ t, exec .softReset s = .next t ∧
    t.straps = s.straps ∧ t.held = false ∧ t.pending = s.pending ∧
    t.bus.aborts = 0 ∧ t.bus.framing = { stage := .unsynced, recRun := 0, domRun := 0, gap := 0, requiredGap := 11, position := 0
                                         bits := [], ackDue := false } ∧
    (s.bus.tx = none → t.bus.tx = none) ∧
    (∀ x, s.bus.tx = some x →
      t.bus.tx = some { x with phase := .breaking (match x.phase with
        | .acks position _ => 16 - position | .breaking wait _ _ => wait | .sending _ | .closing _ _ => 0) 12 true }) ∧
    t.stream = { s.stream with outbound := [], inbound := [], lastPost := .accepted } ∧
    t.members = { station := if s.members.station = .strapFault then .strapFault else .listening
                  listenTimer := if s.members.station = .strapFault then none else some 0
                  beaconTimer := none, hello := none, divergence := none } ∧
    (∀ n, t.peer n = { state := if n = s.straps.n then .self else .absent, silence := none, expected := none
                       applied := none, voted := none, diverged := false }) ∧
    t.raster = { s.raster with engine := .idle, issued := 0, digest := 0, history := [], mark := .partialPicture } ∧
    t.barrier = { s.barrier with slot := none, pending := none, timer := none, late := [], pendingVote := none } ∧
    t.edge = { shift := none, outbox := [], inbox := [], timer := none } ∧
    t.scan = s.scan ∧
    t.port = { s.port with phase := .idle, cursor := { band := 0, column := 0 }, mark := none } ∧
    t.watch = s.watch.map (fun w => { w with firstHit := none }) ∧
    t.events = { flags := 0, mask := s.events.mask }

/-! ### The local port -/

/-- The falling edge of **CS#** loads the status byte: station state, IRQ pending, outbound full, inbound full, last POST refused
and a reserved 0; it changes nothing else (R174, 11.2, 11.7), and a rise at once after it takes no command (R175). A rise, told by
the row of the edges of **CS#** since the table has none for it (the model's choice, log 5), ends the transaction. **SDO** carries what
is loaded and then filler, the most significant bit of each byte first, in a transaction alone: it is high impedance while **CS#** is
high, while the part is held, and after a reset until **CS#** has risen and fallen again (R172, R185, R187, R190). -/
def Obligations.StatusByteAtCsFall : Prop :=
  (∀ s : State, s.held = false →
    exec .csFall s = .next { s with port := { s.port with phase := .opened, out := [s.statusByte] } } ∧
    exec (.csFall .fallRise) s = .next { s with port := { s.port with phase := .idle, out := [s.statusByte] } } ∧
    (s.statusByte.extractLsb' 5 3).toNat = (match s.members.station with
      | .strapFault => 0 | .listening => 1 | .joining => 2 | .member => 3 | .outOfStep => 4 | .busFault => 5) ∧
    (s.statusByte.getLsbD 4 = true ↔ ∃ e : Event, s.flagSet e = true ∧ s.events.mask.getLsbD e.number = true) ∧
    s.statusByte.getLsbD 3 = decide (s.stream.outbound.length = 8) ∧
    s.statusByte.getLsbD 2 = decide (s.stream.inbound.length = 16) ∧
    s.statusByte.getLsbD 1 = decide (s.stream.lastPost ≠ .accepted) ∧ s.statusByte.getLsbD 0 = false) ∧
  (∀ s : State, exec (.csFall .rise) s = .next { s with port := { s.port with phase := .idle } }) ∧
  ∀ (s : State) (i : Nat),
    s.sdoByte i = (if s.held = false ∧ s.port.phase ≠ .idle ∧ s.port.phase ≠ .waitRise then some ((s.port.out[i]?).getD 0)
      else none) ∧
    ∀ j, j < 8 → s.sdoBit (8 * i + j) = (s.sdoByte i).map fun b => b.getLsbD (7 - j)

/-- An unknown opcode raises PORT_ERROR at its arrival, and a transaction that is too short at its end; neither changes anything
else, and the port sends filler after the status byte until **CS#** rises (R175, R176, R190). A port whose **CS#** was low in a reset
takes none of its commands and sends nothing until **CS#** has risen and fallen again (R185): each of its rows leaves the part as it
is, but that a rise ends the wait. -/
def Obligations.FaultyTransactionsRaisePortError : Prop :=
  (∀ s : State, s.portOpen →
    (∀ opcode rises, opcode ∉ knownOpcodes →
      ∃ t, exec (.unknownOpcode opcode rises) s = .next t ∧
        t = { s.raise .portError with port := { s.port with phase := if rises = true then .idle else .finished } } ∧
        ∀ i, s.port.out.length ≤ i → t.sdoByte i = if rises = true then none else some 0) ∧
    exec .shortTransaction s = .next ((s.raise .portError).portClosed)) ∧
  ∀ s : State, s.held = false → s.port.phase = .waitRise →
    (∀ i, s.sdoByte i = none) ∧
    (∀ (c : Instr) (rises : Bool),
      (c = .readStatus rises ∨ c = .readEvents rises ∨ c = .readDivergence rises ∨ (∃ n, c = .readPeer n rises) ∨
        (∃ e, c = .readWatch e rises) ∨ (∃ d, c = .writeOverlay d rises) ∨ (∃ n, c = .readOverlay n rises) ∨
        ∃ o, o ∉ knownOpcodes ∧ c = .unknownOpcode o rises) →
      exec c s = .next (if rises = true then s.portClosed else s)) ∧
    (∀ c : Instr,
      (c = .shortTransaction ∨ (∃ r, c = .post r) ∨ (∃ m, c = .clearEvents m) ∨ (∃ m, c = .setMask m) ∨
        (∃ e n a y b z, c = .setWatch e n a y b z) ∨ (∃ l, c = .clearWatchHits l) ∨ (∃ b k, c = .setCursor b k) ∨
        c = .writeOverlayPartialByte ∨ c = .editBegin ∨ c = .editEnd ∨ (∃ m k q, c = .setDisplay m k q) ∨ c = .softReset ∨
        c = .csFall .rise) →
      exec c s = .next s.portClosed) ∧
    exec .csFall s = .next { s with port := { s.port with phase := .opened, out := [s.statusByte] } }

/-- READ STATUS, READ EVENTS and READ DIVERGENCE load their response behind the status byte and change no other state; the
transaction lasts until **CS#** rises (R172, R177, R178, 11.2, 11.8). -/
def Obligations.ReadCommandsLoadTheirResponse : Prop :=
  ∀ (s : State) (rises : Bool), s.portOpen → ∀ phase : PortPhase, phase = (if rises = true then .idle else .finished) →
    exec (.readStatus rises) s = .next { s with port := { s.port with phase := phase, out := s.port.out ++ s.statusBlock } } ∧
    s.statusBlock.length = 22 ∧
    s.statusBlock.take 4 = [
      (match s.members.station with
        | .strapFault => 0 | .listening => 1 | .joining => 2 | .member => 3 | .outOfStep => 4 | .busFault => 5),
      BitVec.ofNat 8 s.straps.n.val, BitVec.ofNat 8 s.straps.w, BitVec.ofNat 8 s.straps.h] ∧
    (s.statusBlock.drop 4).take 6 = [hi8 s.stream.epoch, lo8 s.stream.epoch, hi8 s.barrier.committed, lo8 s.barrier.committed,
      hi8 s.barrier.voted, lo8 s.barrier.voted] ∧
    (s.statusBlock.drop 10).take 8 = [
      (match s.raster.engine with | .idle => 0 | .applying => 1 | .awaitEdge => 2 | .awaitBarrier => 3 | .copying => 4),
      (match s.barrier.shown with | .a => 0 | .b => 1), BitVec.ofNat 8 s.stream.outbound.length,
      BitVec.ofNat 8 s.stream.inbound.length, BitVec.ofNat 8 s.edge.outbox.length, BitVec.ofNat 8 s.edge.inbox.length,
      s.stream.counter, (match s.stream.lastPost with | .accepted => 0 | .full => 1 | .invalid => 2 | .notMember => 3)] ∧
    (∃ roster late : Half, s.statusBlock.drop 18 = [hi8 roster, lo8 roster, hi8 late, lo8 late] ∧
      (∀ n : Station, roster.getLsbD n.val = s.inRoster n) ∧
      ∀ n : Station, late.getLsbD n.val = decide (n ∈ s.barrier.late)) ∧
    exec (.readEvents rises) s = .next { s with
      port := { s.port with phase := phase, out := s.port.out ++ [hi8 s.events.flags, lo8 s.events.flags] } } ∧
    exec (.readDivergence rises) s = .next { s with port := { s.port with phase := phase, out := s.port.out ++
      (match s.members.divergence with
        | none => List.replicate 13 0
        | some r => [1, BitVec.ofNat 8 r.peer.val, (match r.cause with | .streamEpoch => 0 | .digest => 1 | .joinEpoch => 2),
            hi8 r.epoch, lo8 r.epoch] ++ bytes32 r.own ++ bytes32 r.theirs) } }

/-- READ PEER and READ WATCH load filler and the entry their byte names, with presence bits for what may be absent, and change no
other state; out of range they raise PORT_ERROR and load nothing; the transaction lasts until **CS#** rises (R172, R179, R189, 11.2,
11.8). -/
def Obligations.ReadEntryLoadsOneEntry : Prop :=
  ∀ (s : State) (rises : Bool), s.portOpen → ∀ phase : PortPhase, phase = (if rises = true then .idle else .finished) →
    (∀ (n : Station) (p : Peer) (v : Option Epoch), p = s.peer n →
      v = (if n = s.straps.n then some s.barrier.voted else p.voted) →
      exec (.readPeer (BitVec.ofNat 8 n.val) rises) s = .next { s with port := { s.port with
        phase := phase, out := s.port.out ++ [0,
          (match p.state with | .self => 0 | .absent => 1 | .member => 2 | .dropped => 3 | .foreign => 4),
          (if p.silence.isSome = true then 1 else 0) ||| (if p.diverged = true then 2 else 0)
            ||| (if p.expected.isSome = true then 4 else 0) ||| (if p.applied.isSome = true then 8 else 0)
            ||| (if v.isSome = true then 16 else 0),
          p.expected.getD 0, p.applied.getD 0, hi8 (v.getD 0), lo8 (v.getD 0)] } }) ∧
    (∀ i : Byte, 15 < i.toNat →
      exec (.readPeer i rises) s = .next { s.raise .portError with port := { s.port with phase := phase } }) ∧
    (∀ (e : Byte) (w : WatchEntry), s.watch[e.toNat]? = some w →
      exec (.readWatch e rises) s = .next { s with port := { s.port with
        phase := phase, out := s.port.out ++ [0,
          (if w.enabled = true then 1 else 0) ||| (if w.firstHit.isSome = true then 6 else 0),
          hi8 (BitVec.ofNat 16 w.x0), lo8 (BitVec.ofNat 16 w.x0), BitVec.ofNat 8 w.y0,
          hi8 (BitVec.ofNat 16 w.x1), lo8 (BitVec.ofNat 16 w.x1), BitVec.ofNat 8 w.y1,
          (match w.firstHit with | some (o, _) => BitVec.ofNat 8 o.val | none => 0),
          (match w.firstHit with | some (_, q) => q | none => 0)] } }) ∧
    (∀ e : Byte, s.watch.length ≤ e.toNat →
      exec (.readWatch e rises) s = .next { s.raise .portError with port := { s.port with phase := phase } })

/-- A POST whose record has arrived whole gets one of the four results, tested in their order, and only an ACCEPTED record enters
the outbound queue, at its tail and without the bytes past it; a short POST raises PORT_ERROR and keeps the last result (R20, R75,
R180). What has arrived whole, and which bytes are a valid record, is the table of R180 and that of R20 with the codes of 11.2 and the
layouts of 11.4. -/
def Obligations.PostGetsOneResult : Prop :=
  (∀ (bytes : List Byte) (s : State), s.portOpen →
    (recordLength bytes = none → exec (.post bytes) s = .next ((s.raise .portError).portClosed)) ∧
    ∀ n, recordLength bytes = some n →
      exec (.post bytes) s = .next (State.portClosed { s with stream := { s.stream with
        lastPost :=
          if parseOp s.straps (bytes.take n) = none then .invalid
          else if s.members.station = .outOfStep ∨ s.members.station = .busFault ∨ s.members.station = .strapFault then .notMember
          else if 8 ≤ s.stream.outbound.length then .full else .accepted
        outbound :=
          if parseOp s.straps (bytes.take n) ≠ none ∧ s.stream.outbound.length < 8 ∧
              (s.members.station = .listening ∨ s.members.station = .joining ∨ s.members.station = .member)
          then s.stream.outbound ++ [bytes.take n] else s.stream.outbound } })) ∧
  (∀ (bytes : List Byte) (n : Nat), recordLength bytes = some n ↔ ∃ kind, bytes.head? = some kind ∧
    (kind = 1 ∧ 8 ≤ bytes.length ∧ n = 8 ∨
      (kind = 2 ∧ ∃ len, bytes[5]? = some len ∧
        ((len.toNat = 0 ∨ 64 < len.toNat) ∧ n = 6 ∨
          1 ≤ len.toNat ∧ len.toNat ≤ 64 ∧ 6 + len.toNat ≤ bytes.length ∧ n = 6 + len.toNat)) ∨
      kind = 3 ∧ 4 ≤ bytes.length ∧ n = 4 ∨ kind = 4 ∧ 2 ≤ bytes.length ∧ n = 2 ∨ 4 < kind.toNat ∧ n = 1 ∨
      kind = 0 ∧ n = 1)) ∧
  ∀ (g : Straps) (bytes : List Byte) (op : Op), parseOp g bytes = some op ↔
    (∃ (x1 x0 y w1 w0 h ink : Byte) (i : Ink), bytes = [1, x1, x0, y, w1, w0, h, ink] ∧
      op = .fill (256 * x1.toNat + x0.toNat) y.toNat (256 * w1.toNat + w0.toNat) h.toNat i ∧
      256 * x1.toNat + x0.toNat < 144 * g.w ∧ y.toNat < 48 * g.h ∧ 1 ≤ 256 * w1.toNat + w0.toNat ∧
      256 * w1.toNat + w0.toNat ≤ 576 ∧ 1 ≤ h.toNat ∧ h.toNat ≤ 192 ∧
      (ink = 0 ∧ i = .set ∨ ink = 1 ∧ i = .clear ∨ ink = 2 ∧ i = .invert)) ∨
    (∃ (x1 x0 y mode n : Byte) (data : List Byte) (m : StripMode), bytes = [2, x1, x0, y, mode, n] ++ data ∧
      op = .strip (256 * x1.toNat + x0.toNat) y.toNat m data ∧
      256 * x1.toNat + x0.toNat < 144 * g.w ∧ y.toNat < 48 * g.h ∧ 1 ≤ n.toNat ∧ n.toNat ≤ 64 ∧ data.length = n.toNat ∧
      (mode = 0 ∧ m = .replace ∨ mode = 1 ∧ m = .or ∨ mode = 2 ∧ m = .clearWhereSet ∨ mode = 3 ∧ m = .xor)) ∨
    (∃ (direction k edgeMode : Byte) (d : Direction) (rotate : Bool), bytes = [3, direction, k, edgeMode] ∧
      op = .shift d k.toNat rotate ∧ 1 ≤ k.toNat ∧ k.toNat ≤ 8 ∧
      (direction = 0 ∧ d = .left ∨ direction = 1 ∧ d = .right ∨ direction = 2 ∧ d = .up ∨ direction = 3 ∧ d = .down) ∧
      (edgeMode = 0 ∧ rotate = false ∨ edgeMode = 1 ∧ rotate = true)) ∨
    ∃ (mode : Byte) (copy : Bool), bytes = [4, mode] ∧ op = .present copy ∧
      (mode = 0 ∧ copy = false ∨ mode = 1 ∧ copy = true)

/-- CLEAR EVENTS clears the selected flags, and with bit 7 the divergence record and every mark; SET MASK replaces the mask; and
**IRQ#** is low exactly while a set flag has its mask bit set (R109, R168, R169). -/
def Obligations.FlagsMaskAndIrq : Prop :=
  ∀ (m : Half) (s : State), s.portOpen →
    (∃ t, exec (.clearEvents m) s = .next t ∧
      (∀ e : Event, t.flagSet e = (s.flagSet e && !m.getLsbD e.number)) ∧
      t = State.portClosed { s with
        events := { flags := s.events.flags &&& ~~~m, mask := s.events.mask }
        members := if m.getLsbD 7 then { s.members with divergence := none } else s.members
        peers := if m.getLsbD 7 then s.peers.map (fun p => { p with diverged := false }) else s.peers }) ∧
    exec (.setMask m) s = .next (State.portClosed { s with events := { s.events with mask := m } }) ∧
    (s.irqLow = true ↔ ∃ e : Event, s.flagSet e = true ∧ s.events.mask.getLsbD e.number = true)

/-- The commands that set state at **CS#** rise take all they carry or, with PORT_ERROR, nothing (R154, R156, R159, R163, R165, R181):
SET WATCH replaces one entry and clears its hit; CLEAR WATCH HITS clears the hits of the selected entries alone; SET CURSOR moves
the cursor; EDIT BEGIN sets the mark to the cursor; EDIT END returns the cursor to the mark and turns edit mode off, and does nothing
while it is off; SET DISPLAY sets mode, combine and contrast. -/
def Obligations.SettingsAreTakenOrRefused : Prop :=
  ∀ (s : State), s.portOpen →
    (∀ (e en : Byte) (x0 : Half) (y0 : Byte) (x1 : Half) (y1 : Byte),
      exec (.setWatch e en x0 y0 x1 y1) s = .next (State.portClosed
        (if e.toNat ≤ 3 ∧ x0.toNat ≤ x1.toNat ∧ x1.toNat < 144 * s.straps.w ∧ y0.toNat ≤ y1.toNat ∧ y1.toNat < 48 * s.straps.h
         then { s with watch := s.watch.set e.toNat { enabled := en.getLsbD 0, x0 := x0.toNat, y0 := y0.toNat
                                                      x1 := x1.toNat, y1 := y1.toNat, firstHit := none } }
         else s.raise .portError))) ∧
    (∀ sel : Byte, ∃ t, exec (.clearWatchHits sel) s = .next t ∧ t = State.portClosed { s with watch := t.watch } ∧
      ∀ e : Nat, t.watch[e]? = (s.watch[e]?).map (fun w => if sel.getLsbD e then { w with firstHit := none } else w)) ∧
    (∀ band column : Byte, exec (.setCursor band column) s = .next (State.portClosed
      (if band.toNat ≤ 5 ∧ column.toNat ≤ 143 then
        { s with port := { s.port with cursor := { band := band.toNat, column := column.toNat } } }
       else s.raise .portError))) ∧
    exec .editBegin s = .next (State.portClosed { s with port := { s.port with mark := some s.port.cursor } }) ∧
    (∀ c, s.port.mark = some c →
      exec .editEnd s = .next (State.portClosed { s with port := { s.port with cursor := c, mark := none } })) ∧
    (s.port.mark = none → exec .editEnd s = .next s.portClosed) ∧
    ∀ mode combine contrast : Byte, exec (.setDisplay mode combine contrast) s = .next (State.portClosed
      (if h : mode.toNat ≤ 3 ∧ combine.toNat ≤ 2 ∧ contrast.toNat ≤ 15 then
        { s with port := { s.port with display :=
          { mode := [DisplayMode.off, .normal, .reverse, .allOn][mode.toNat]'(by simp; omega)
            combine := [Combine.none, .or, .xor][combine.toNat]'(by simp; omega)
            contrast := contrast.toNat } } }
       else s.raise .portError))

/-- WRITE OVERLAY stores its bytes one after another from the cursor on, the column stopping at 143, where the last byte stays; every
other byte of the overlay keeps its value. Further data bytes of the same transaction go on from there, so that a run of bytes told
in two parts is the run told at once; a partial byte raises PORT_ERROR and stores nothing (R157, R173, R182). -/
def Obligations.WriteOverlayStoresAtCursor : Prop :=
  (∀ (data : List Byte) (rises : Bool) (s : State), (s.portOpen ∨ s.held = false ∧ s.port.phase = .writing) →
    s.port.overlay.wf = true → s.port.cursor.inRange →
    ∃ t, exec (.writeOverlay data rises) s = .next t ∧
      t = { s with port := { s.port with
        phase := if rises = true then .idle else .writing, overlay := t.port.overlay, cursor := t.port.cursor } } ∧
      t.port.cursor = { band := s.port.cursor.band, column := min 143 (s.port.cursor.column + data.length) } ∧
      (∀ a, t.port.overlay.read a =
        if byteAddress s.port.cursor.band s.port.cursor.column ≤ a ∧ a < byteAddress s.port.cursor.band 143 ∧
            a < byteAddress s.port.cursor.band s.port.cursor.column + data.length then
          (data[a - byteAddress s.port.cursor.band s.port.cursor.column]?).getD 0
        else if a = byteAddress s.port.cursor.band 143 ∧ 143 < s.port.cursor.column + data.length then
          (data.getLast?).getD 0
        else s.port.overlay.read a)) ∧
  (∀ (first more : List Byte) (rises : Bool) (s t : State), s.portOpen → exec (.writeOverlay first) s = .next t →
    exec (.writeOverlay (first ++ more) rises) s = exec (.writeOverlay more rises) t) ∧
  ∀ s : State, (s.portOpen ∨ s.held = false ∧ s.port.phase = .writing) →
    exec .writeOverlayPartialByte s = .next ((s.raise .portError).portClosed)

/-- READ OVERLAY of n bytes outside edit mode returns columns c, c+1, … each stopping at 143 and leaves the cursor at c+n or 143; in
edit mode every byte is the one at the cursor, which stays (R158). It loads one byte more than it shifts out. Further bytes of the same
transaction go on from there, so that a run told in two parts is the run told at once (R173, R182). -/
def Obligations.ReadOverlayAdvancesCursor : Prop :=
  ∀ (n : Nat) (rises : Bool) (s : State), s.portOpen → s.port.cursor.inRange →
    (∃ t, exec (.readOverlay n rises) s = .next t ∧
      t = { s with port := { s.port with
        phase := if rises = true then .idle else .reading, out := t.port.out, cursor := t.port.cursor } } ∧
      t.port.out.length = s.port.out.length + n + 1 ∧ t.port.out.take s.port.out.length = s.port.out ∧
      (s.port.mark = none →
        t.port.cursor = { band := s.port.cursor.band, column := min 143 (s.port.cursor.column + n) } ∧
        ∀ i, i ≤ n → t.port.out[s.port.out.length + i]? =
          some (s.port.overlay.read (byteAddress s.port.cursor.band (min 143 (s.port.cursor.column + i))))) ∧
      (s.port.mark ≠ none → t.port.cursor = s.port.cursor ∧
        ∀ i, i ≤ n → t.port.out[s.port.out.length + i]? =
          some (s.port.overlay.read (byteAddress s.port.cursor.band s.port.cursor.column)))) ∧
    ∀ (more : Nat) (t : State), exec (.readOverlay n) s = .next t →
      exec (.readOverlay (n + more) rises) s = exec (.readOverlay more rises) t

/-! ### Sending -/

/-- The transmit arbiter takes the eligible candidate of lowest class: the own VOTE in MEMBER; then the EDGE at the outbox head when
its target is in the roster; then the CANVAS at the outbound head when the own inbound queue has a place; then the HELLO of the
station state. A CANVAS carries the counter, every other message the number before it. It has none where the station state makes none
eligible: in MEMBER with an empty VOTE slot, no eligible outbox head, no CANVAS it may send and no BEACON pending; in JOINING without
a JOIN and in OUT_OF_STEP without a LEAVE pending; and in every other state (R55, R56, R64, R95, R99, R102, R127). -/
def Obligations.ArbiterChoosesLowestClass : Prop :=
  ∀ s : State,
    (∀ t, s.members.station = .member → s.barrier.slot = some t →
      s.candidate = some (Txn.fresh (.vote t) (s.stream.counter - 1) [hi8 t, lo8 t])) ∧
    (∀ r rest, s.members.station = .member → s.barrier.slot = none → s.edge.outbox = r :: rest → s.inRoster r.target = true →
      s.candidate = some (Txn.fresh (.edge r.target) (s.stream.counter - 1) (encodeEdge r))) ∧
    ((∀ r rest, s.edge.outbox = r :: rest → s.inRoster r.target = false) →
      (∀ b rest, s.members.station = .member → s.barrier.slot = none → s.stream.outbound = b :: rest →
        s.stream.inbound.length < 16 → s.candidate = some (Txn.fresh .canvas s.stream.counter b)) ∧
      (s.members.station = .member → s.barrier.slot = none → (s.stream.outbound = [] ∨ 16 ≤ s.stream.inbound.length) →
        s.members.hello = some .beacon →
        ∃ d complete, s.candidate = some (Txn.fresh .beacon (s.stream.counter - 1) (encodeHello (.beacon s.straps.geometryByte
          s.stream.epoch s.barrier.voted s.barrier.committed d complete))) ∧
        ((∀ e ∈ s.raster.history, e.epoch ≠ s.barrier.committed) → d = 0 ∧ complete = false) ∧
        ∀ old e new, s.raster.history = old ++ e :: new → e.epoch = s.barrier.committed →
          (∀ f ∈ new, f.epoch ≠ s.barrier.committed) → d = e.digest ∧ complete = e.complete) ∧
      (s.members.station = .member → s.barrier.slot = none → (s.stream.outbound = [] ∨ 16 ≤ s.stream.inbound.length) →
        s.members.hello ≠ some .beacon → s.candidate = none)) ∧
    (s.members.station = .joining → s.members.hello ≠ some .join → s.candidate = none) ∧
    (s.members.station = .outOfStep → s.members.hello ≠ some .leave → s.candidate = none) ∧
    (s.members.station = .joining → s.members.hello = some .join → s.candidate =
      some (Txn.fresh .join (s.stream.counter - 1) (encodeHello (.join s.straps.geometryByte s.stream.epoch)))) ∧
    (s.members.station = .outOfStep → s.members.hello = some .leave → s.candidate =
      some (Txn.fresh .leave (s.stream.counter - 1) (encodeHello (.leave s.straps.geometryByte)))) ∧
    (s.members.station = .listening ∨ s.members.station = .strapFault ∨ s.members.station = .busFault → s.candidate = none)

/-- A station that contends, on an idle line whose gap count has reached the required gap, sends a start bit and the arbitration field
of its candidate. It holds the bus when no contender is lower, and its transaction has then sent seven bits; otherwise it follows the
winner's message, with nothing sent, no attempt counted, and its candidates and abort count as they were. The outbox is checked at the
choice. Without an eligible candidate, in another stage or before the gap is reached it does not contend, and nothing changes (R48,
R49, R50, R55, R57). That the contenders are told with the row and settled within it, and that the check comes before the choice and
not without one, are the model's choices (logs 15 and 29). -/
def Obligations.ContentionGoesToTheLowest : Prop :=
  ∀ (rivals : List (BitVec 6)) (s : State), s.held = false →
    (s.bus.tx ≠ none ∨ s.bus.framing.stage ≠ .idle ∨ s.bus.framing.gap < s.bus.framing.requiredGap ∨ s.candidate = none →
      exec (.contend rivals) s = .next s) ∧
    (s.bus.tx = none → s.bus.framing.stage = .idle → s.bus.framing.requiredGap ≤ s.bus.framing.gap → s.candidate ≠ none →
      ∀ u, u = s.recheckOutbox → (s.outboxSettled → u = s) ∧ u.candidate ≠ none ∧
      ∀ x, u.candidate = some x →
        ((∀ r ∈ rivals, (s.arbitration x).toNat ≤ r.toNat) →
          ∃ t, exec (.contend rivals) s = .next t ∧ t = { u with bus := { s.bus with framing := t.bus.framing, tx := t.bus.tx } } ∧
            t.bus.tx = some { x with phase := .sending 7 } ∧ t.bus.framing.stage = .frame ∧ t.bus.framing.requiredGap = 11 ∧
            t.bus.framing.ackDue = false ∧ t.bus.framing.bits = (s.attemptBits x).take 7) ∧
        ((∃ r ∈ rivals, r.toNat < (s.arbitration x).toNat) →
          ∃ t, exec (.contend rivals) s = .next t ∧ t = { u with bus := { s.bus with framing := t.bus.framing } } ∧
            t.bus.framing.stage = .frame ∧ t.bus.framing.requiredGap = 11 ∧ t.bus.framing.ackDue = false ∧
            ∃ r ∈ rivals, (∀ q ∈ rivals, r.toNat ≤ q.toNat) ∧ t.bus.framing.bits = false :: fieldBits r))

/-- At the first CRC completion of the own CANVAS transaction the record enters the own inbound queue with the own number and the
seq sent, a PRESENT with the next stream epoch as its tag, the counter advances, and the ack field begins; the engine takes the
record if it is IDLE (R24, R50, R63, R73, R82). -/
def Obligations.OwnRecordIsSelfDelivered : Prop :=
  ∀ (s u : State) (x : Txn) (p : Nat), s.held = false → s.bus.tx = some x → x.phase = .sending p → x.owner = .canvas →
    x.crcDone = false →
    u = { s with
      bus := { s.bus with tx := some { x with crcDone := true, phase := .acks 0 [] }
                          framing := { s.bus.framing with stage := .ack, position := 0, bits := [], domRun := 0
                                                          recRun := lastRun (s.attemptBits x) } }
      stream := { s.stream with
        counter := s.stream.counter + 1
        epoch := if isPresent s.straps x.payload then s.stream.epoch + 1 else s.stream.epoch
        inbound := s.stream.inbound ++ [{ bytes := x.payload, originator := s.straps.n, seq := x.seq, malformed := false
                                          tag := if isPresent s.straps x.payload then some (s.stream.epoch + 1) else none }] } } →
    exec .selfDelivery s = .next u.settle ∧ (s.raster.engine ≠ .idle → exec .selfDelivery s = .next u)

/-- The end of an ack field adds the dominant slots to the acked set. When the required set is covered, the transaction goes to its
end field COMPLETE; else the next attempt starts in the next bit time while fewer than 8 have been sent; else it goes to its end field
EXHAUSTED. The required set is the roster for VOTE, CANVAS and JOIN, the target for EDGE, and empty for BEACON and LEAVE. The framing
stage is END with its first bit to come (R42, R51). -/
def Obligations.AckFieldCompletesRepeatsOrExhausts : Prop :=
  ∀ (slots seen : List Station) (s : State) (x : Txn) (p : Nat), s.held = false → s.bus.tx = some x → x.phase = .acks p seen →
    ∃ t y, exec (.ackFieldEnd slots) s = .next t ∧ t = { s with bus := { s.bus with tx := some y, framing := t.bus.framing } } ∧
      t.bus.framing = { s.bus.framing with stage := .ending, position := 0, domRun := 0, recRun := t.bus.framing.recRun } ∧
      (15 ∈ seen ++ slots → t.bus.framing.recRun = 0) ∧
      (seen ++ slots = [] → t.bus.framing.recRun = lastRun (s.attemptBits x) + 16) ∧
      y = { x with acked := y.acked, attempts := y.attempts, phase := y.phase } ∧
      (∀ n, n ∈ y.acked ↔ n ∈ x.acked ∨ n ∈ seen ∨ n ∈ slots) ∧
      let covered := match x.owner with
        | .vote _ | .canvas | .join => ∀ n, s.inRoster n = true → n ∈ y.acked
        | .edge target => target ∈ y.acked
        | .beacon | .leave => True
      (covered → y.phase = .closing 0 true ∧ y.attempts = x.attempts) ∧
      (¬ covered → x.attempts < 8 → y.phase = .sending 0 ∧ y.attempts = x.attempts + 1) ∧
      (¬ covered → 8 ≤ x.attempts → y.phase = .closing 0 false ∧ y.attempts = x.attempts)

/-- A mismatch stops the message and starts a 12-bit break with the next bit time, or after slot 15 when the mismatch is on the last
CRC bit; the stage follows the bit read. The end of the break ends the transaction ABORTED when no attempt completed its CRC: the
abort count goes up by one, and the message stays with its owner unchanged, for every class (R52, R53, R54). A soft reset's break ends
with no outcome and leaves the abort count (R60). After an own transaction, by its end field or its break, the stage is IDLE with the
hold-off of 24 (R42, R48). Which bits a MISMATCH falls on is the model's reading (log 21). -/
def Obligations.MismatchBreaksAndAborts : Prop :=
  (∀ (s : State) (x : Txn), s.held = false → s.bus.tx = some x →
    (∀ p, x.phase = .sending p → ∃ t, exec .mismatch s = .next t ∧
      t = { s with bus := { s.bus with framing := t.bus.framing, tx := t.bus.tx } } ∧
      (p + 1 ≠ 42 + 8 * x.payload.length →
        t.bus.framing = s.bus.framing.follow (.coded (((s.attemptBits x)[p]?).getD true)) ∧
        t.bus.tx = some { x with phase := .breaking 0 12 false }) ∧
      (p + 1 = 42 + 8 * x.payload.length →
        t.bus.framing = { s.bus.framing with stage := .ack, position := 0, bits := [], domRun := 0
                                             recRun := t.bus.framing.recRun } ∧
        t.bus.tx = some { x with phase := .breaking 16 12 false })) ∧
    (∀ p o, x.phase = .closing p o → exec .mismatch s = .next { s with bus := { s.bus with
      framing := s.bus.framing.follow .held, tx := some { x with phase := .breaking 0 12 false } } }) ∧
    (∀ w l, x.phase = .breaking w l false → x.crcDone = false → s.bus.aborts < 3 → exec .transactionEnd s = .next { s with
      bus := { framing := s.bus.framing.afterOwn x.phase, tx := none, aborts := s.bus.aborts + 1 } }) ∧
    (∀ w l, x.phase = .breaking w l true → exec .transactionEnd s = .next { s with
      bus := { framing := s.bus.framing.afterOwn x.phase, tx := none, aborts := s.bus.aborts } })) ∧
  ∀ (f g : Framing) (phase : TxPhase), g = f.afterOwn phase →
    g = { stage := .idle, gap := 0, requiredGap := 24, position := 0, bits := [], ackDue := false
          recRun := g.recRun, domRun := g.domRun } ∧
    (∀ p complete, phase = .closing p complete → g.recRun = f.recRun + (7 - p) ∧ g.domRun = 0) ∧
    ∀ w l soft, phase = .breaking w l soft → g.recRun = 0 ∧ l ≤ g.domRun

/-- The fourth consecutive abort. Its outcome is first handed on: ABORTED leaves every message with its owner; ABORTED-AFTER-CRC takes
the CANVAS off the outbound queue, with OUTBOUND_SPACE from 8 to 7, or counts the vote, and makes the non-ackers of either DROPPED with
PEER_LEFT; an EDGE that its target did not ack is lost; and a HELLO leaves its owner, a JOIN with no JOINED and no drop, a LEAVE with
no entry cleared. At that instant the station enters BUS_FAULT: the event is raised, the listen, beacon and silence timers stop,
nothing is driven, and its waits end: the outbox is emptied with EDGE_LOST, a wait for a strip ends with EDGE_TIMEOUT and a fill of 0, and
a pending barrier commits. After ABORTED nothing else changes (R35, R53, R54, R57, R61, R76, R104, R106, R115, R121, R123, R139,
R141). -/
def Obligations.FourthAbortEntersBusFault : Prop :=
  ∀ (s : State) (x : Txn) (w l : Nat), s.held = false → s.bus.tx = some x → x.phase = .breaking w l false → 3 ≤ s.bus.aborts →
    ∃ t, exec .transactionEnd s = .next t ∧ t.members.station = .busFault ∧ t.bus.aborts = 4 ∧ t.bus.tx = none ∧
      t.flagSet .busFault = true ∧ t.members.listenTimer = none ∧ t.members.beaconTimer = none ∧
      (∀ n, (t.peer n).silence = none) ∧ t.edge.outbox = [] ∧ t.barrier.pending = none ∧ t.drivesTbd = false ∧
      t.flagSet .joined = s.flagSet .joined ∧ (∀ n, (t.peer n).expected = (s.peer n).expected) ∧
      t.stream.outbound = (if x.owner = .canvas ∧ x.crcDone = true then s.stream.outbound.tail else s.stream.outbound) ∧
      (t.flagSet .outboundSpace = true ↔ s.flagSet .outboundSpace = true ∨
        x.owner = .canvas ∧ x.crcDone = true ∧ s.stream.outbound.length = 8) ∧
      (∀ target, x.owner = .edge target → x.crcDone = true → target ∉ x.acked → t.flagSet .edgeLost = true) ∧
      (∀ lost : Station → Prop,
        (∀ n, lost n ↔ (x.owner = .canvas ∨ ∃ e, x.owner = .vote e) ∧ x.crcDone = true ∧ s.inRoster n = true ∧ n ∉ x.acked) →
        (∀ n, (lost n → (t.peer n).state = .dropped) ∧ (¬ lost n → (t.peer n).state = (s.peer n).state)) ∧
        (t.flagSet .peerLeft = true ↔ s.flagSet .peerLeft = true ∨ ∃ n, lost n)) ∧
      (∀ counted : Epoch → Prop, (∀ e, counted e ↔ x.owner = .vote e ∧ x.crcDone = true) →
        (∀ e, counted e → t.barrier.voted = (if epochAtOrAfter e s.barrier.voted then e else s.barrier.voted)) ∧
        ((∀ e, ¬ counted e) → t.barrier.voted = s.barrier.voted) ∧
        (x.crcDone = false ∨ (x.owner ≠ .canvas ∧ ∀ e, x.owner ≠ .vote e) ∨ s.barrier.pending = none ∨
            (∃ b n v, s.barrier.pending = some b ∧ s.inRoster n = true ∧ n ∈ x.acked ∧ (s.peer n).voted = some v ∧
              epochAtOrAfter v b = false) →
          (∀ e, counted e → s.barrier.slot = some e → t.barrier.slot = none) ∧
          ((∀ e, counted e → s.barrier.slot ≠ some e) → t.barrier.slot = s.barrier.slot))) ∧
      ((x.owner = .beacon ∨ x.owner = .join ∨ x.owner = .leave) →
        t.members.hello = if x.crcDone = true then none else s.members.hello) ∧
      (x.owner ≠ .beacon → x.owner ≠ .join → x.owner ≠ .leave → s.members.station ≠ .outOfStep →
        t.members.hello = s.members.hello) ∧
      s.waitsOver t ∧ (s.edge.outbox ≠ [] → (∀ target, x.owner = .edge target → x.crcDone = false ∨ s.edge.outbox.tail ≠ []) →
        t.flagSet .edgeLost = true) ∧
      (x.crcDone = false → State.endsWaits { s with
        bus := { framing := s.bus.framing.afterOwn x.phase, tx := none, aborts := 4 }
        members := { s.members with station := .busFault, listenTimer := none, beaconTimer := none }
        peers := s.peers.map (fun p => { p with silence := none })
        events := { s.events with flags := s.events.flags ||| Event.busFault.bit } } t)

/-- The end of an own CANVAS transaction removes the head of the outbound queue, with OUTBOUND_SPACE from 8 to 7 and at no other
count. COMPLETE drops nobody; EXHAUSTED and ABORTED-AFTER-CRC make every roster peer that did not ack DROPPED, with PEER_LEFT once
if there was any, and tell the roster change (R53, R76, R89, R104). -/
def Obligations.CanvasTransactionLeavesItsQueue : Prop :=
  ∀ (s u : State) (x : Txn) (o : Outcome), s.held = false → s.bus.tx = some x → x.owner = .canvas → x.outcome = some (some o) →
    o ≠ .aborted → (o = .abortedAfterCrc → s.bus.aborts < 3) →
    u = { s with
      bus := { framing := s.bus.framing.afterOwn x.phase, tx := none, aborts := if o = .abortedAfterCrc then s.bus.aborts + 1 else 0 }
      stream := { s.stream with outbound := s.stream.outbound.tail }
      events := { s.events with
        flags := if s.stream.outbound.length = 8 then s.events.flags ||| Event.outboundSpace.bit else s.events.flags } } →
    (o = .complete ∨ (∀ n, s.inRoster n = true → n ∈ x.acked) → exec .transactionEnd s = .next u) ∧
    (o ≠ .complete → s.peers.length = 16 → (∃ n, s.inRoster n = true ∧ n ∉ x.acked) →
      exec .transactionEnd s = .next (State.rosterChanged { u with
        peers := s.peers.mapIdx fun i p =>
          if p.state = .member ∧ ∀ n ∈ x.acked, n.val ≠ i then { p with state := .dropped, silence := none } else p
        events := { u.events with flags := u.events.flags ||| Event.peerLeft.bit } }))

/-- The end of an own VOTE transaction counts the vote: V keeps the later of its value and the epoch sent, and the slot is emptied if
it still holds that epoch. COMPLETE drops nobody; EXHAUSTED and ABORTED-AFTER-CRC make every roster peer that did not ack DROPPED, with
PEER_LEFT once if there was any, and tell the roster change. A pending barrier whose condition then holds commits at that instant, and
one whose condition does not hold waits on (R53, R89, R104, R115, R119, R120). An epoch is at or after another in the serial order of
R113. -/
def Obligations.OwnVoteCountsAtTransactionEnd : Prop :=
  (∀ a b : Epoch, epochAtOrAfter a b = true ↔ (a.toNat + 65536 - b.toNat) % 65536 < 32768) ∧
  ∀ (s u : State) (x : Txn) (e : Epoch) (o : Outcome), s.held = false → s.bus.tx = some x → x.owner = .vote e →
    x.outcome = some (some o) → o ≠ .aborted → (o = .abortedAfterCrc → s.bus.aborts < 3) →
    u = { s with
      bus := { framing := s.bus.framing.afterOwn x.phase, tx := none
               aborts := if o = .abortedAfterCrc then s.bus.aborts + 1 else 0 }
      barrier := { s.barrier with
        voted := if epochAtOrAfter e s.barrier.voted then e else s.barrier.voted
        slot := if s.barrier.slot = some e then none else s.barrier.slot } } →
    (o = .complete ∨ (∀ n, s.inRoster n = true → n ∈ x.acked) →
      (s.barrier.pending = none → exec .transactionEnd s = .next u) ∧
      ∀ b, s.barrier.pending = some b →
        (u.voteDone b → exec .transactionEnd s = .next (u.commitFor b).settle) ∧
        (¬ u.voteDone b → exec .transactionEnd s = .next u)) ∧
    (o ≠ .complete → s.peers.length = 16 → (∃ n, s.inRoster n = true ∧ n ∉ x.acked) →
      exec .transactionEnd s = .next (State.rosterChanged { u with
        peers := s.peers.mapIdx fun i p =>
          if p.state = .member ∧ ∀ n ∈ x.acked, n.val ≠ i then { p with state := .dropped, silence := none } else p
        events := { s.events with flags := s.events.flags ||| Event.peerLeft.bit } }))

/-- The end of an own EDGE transaction removes the outbox head, with EDGE_LOST when its target acked at no attempt, and checks the
outbox; the end of an own BEACON takes it off the pending HELLO and restarts the beacon timer (R53, R57, R99, R141). -/
def Obligations.EdgeAndBeaconTransactionsEnd : Prop :=
  ∀ (s : State) (x : Txn) (o : Outcome) (bus : Bus), s.held = false → s.bus.tx = some x → x.outcome = some (some o) →
    o ≠ .aborted → (o = .abortedAfterCrc → s.bus.aborts < 3) →
    bus = { framing := s.bus.framing.afterOwn x.phase, tx := none, aborts := if o = .abortedAfterCrc then s.bus.aborts + 1 else 0 } →
    (∀ target, x.owner = .edge target → exec .transactionEnd s = .next (State.recheckOutbox { s with
      bus := bus, edge := { s.edge with outbox := s.edge.outbox.tail }
      events := { s.events with
        flags := if target ∈ x.acked then s.events.flags else s.events.flags ||| Event.edgeLost.bit } })) ∧
    (x.owner = .beacon → exec .transactionEnd s = .next { s with
      bus := bus, members := { s.members with beaconTimer := some 0, hello := none } })

/-- The end of the own JOIN, delivered or given up, takes the station to MEMBER: candidates that did not ack are DROPPED, with
PEER_LEFT once if there was any, the beacon timer starts, V is S, the VOTE slot is empty, the next picture is partial, and JOINED is
raised. The end of the own LEAVE takes it to LISTENING: the listen timer starts, every MEMBER entry is ABSENT, every E absent, every
silence timer stopped, the inbox empty, and A, voted epochs, marks and the record are kept (R53, R91, R95, R102, R144). -/
def Obligations.JoinEndsInMemberLeaveInListening : Prop :=
  ∀ (s : State) (x : Txn) (o : Outcome) (bus : Bus), s.held = false → s.bus.tx = some x → x.outcome = some (some o) →
    o ≠ .aborted → (o = .abortedAfterCrc → s.bus.aborts < 3) →
    bus = { framing := s.bus.framing.afterOwn x.phase, tx := none, aborts := if o = .abortedAfterCrc then s.bus.aborts + 1 else 0 } →
    (x.owner = .join → s.peers.length = 16 → exec .transactionEnd s = .next (State.rosterChanged { s with
      bus := bus
      peers := s.peers.mapIdx fun i p =>
        if p.state = .member ∧ ∀ n ∈ x.acked, n.val ≠ i then { p with state := .dropped, silence := none } else p
      members := { s.members with station := .member, listenTimer := none, beaconTimer := some 0, hello := none }
      barrier := { s.barrier with voted := s.stream.epoch, slot := none }
      raster := { s.raster with mark := .partialPicture }
      events := { s.events with flags :=
        (if ∃ n, s.inRoster n = true ∧ n ∉ x.acked then s.events.flags ||| Event.peerLeft.bit else s.events.flags)
          ||| Event.joined.bit } })) ∧
    (x.owner = .leave → exec .transactionEnd s = .next (State.rosterChanged { s with
      bus := bus
      members := { s.members with station := .listening, listenTimer := some 0, beaconTimer := none, hello := none }
      peers := s.peers.map (fun p => { p with
        state := if p.state = .member then .absent else p.state, silence := none, expected := none })
      edge := { s.edge with inbox := [] } }))

/-! ### Receiving -/

/-- A MEMBER station that follows a CANVAS accepts it when E is absent or equals s and a place is free: the record joins the tail of
the inbound queue, E becomes s + 1, a well-formed PRESENT advances S and takes it as its tag, a malformed record raises FORMAT, and
the station acks; an IDLE engine takes the record. With no place free it takes nothing and does not ack. A duplicate, s = E−1,
is acked and appends nothing (R21, R22, R24, R67, R82). -/
def Obligations.CanvasIsTakenOrRefused : Prop :=
  ∀ (m : Received) (s u : State), s.memberHears m →
    u = { (s.handed .canvas m true).setExpected m.originator (m.seq + 1) with
      stream := { s.stream with
        epoch := if isPresent s.straps m.payload then s.stream.epoch + 1 else s.stream.epoch
        inbound := s.stream.inbound ++
          [{ bytes := m.payload, originator := m.originator, seq := m.seq
             tag := if isPresent s.straps m.payload then some (s.stream.epoch + 1) else none
             malformed := (parseOp s.straps m.payload).isNone }] }
      events := { s.events with flags :=
        if (parseOp s.straps m.payload).isNone then s.events.flags ||| Event.format.bit else s.events.flags } } →
    ((s.peer m.originator).expected = none ∨ (s.peer m.originator).expected = some m.seq →
      (s.stream.inbound.length < 16 → exec (.canvasReceived m) s = .next u.settle ∧
        (s.raster.engine ≠ .idle → exec (.canvasReceived m) s = .next u)) ∧
      (16 ≤ s.stream.inbound.length → exec (.canvasReceived m) s = .next (s.handed .canvas m false))) ∧
    ((s.peer m.originator).expected = some (m.seq + 1) → exec (.canvasReceived m) s = .next (s.handed .canvas m true))

/-- A gap at a MEMBER station, shown by a CANVAS, VOTE, EDGE, BEACON, LEAVE or malformed HELLO, takes it to OUT_OF_STEP: CANVAS_LOST, no
ack, every E kept, and a LEAVE pending as soon as no record is queued. Its waits end: the outbox is emptied with EDGE_LOST, a wait for a
strip ends with EDGE_TIMEOUT and a fill of 0, and a pending barrier commits with COMMIT and FRAME, its PRESENT completed or copied. The
counter, S and the outbound queue are kept; nothing is appended to the inbound queue. A LEAVE then makes its sender ABSENT, with
PEER_LEFT for a roster peer; no other message changes the state of an entry, and nothing else changes (R35, R57, R69, R70, R80, R92,
R101, R103, R121, R123, R139). -/
def Obligations.GapTakesTheStationOutOfStep : Prop :=
  ∀ (c : Instr) (m : Received) (s : State) (e : Byte), s.memberHears m → (s.peer m.originator).expected = some e →
    m.seq ≠ e - 1 → ∀ leaves : Prop,
    (leaves ↔ c = .leaveReceived m ∧ parseHello m.payload = some (.leave s.straps.geometryByte)) →
    (c = .canvasReceived m ∧ m.seq ≠ e ∨ c = .voteReceived m ∨ c = .edgeReceived m ∨ leaves ∨
      (c = .beaconReceived m ∨ c = .joinReceived m ∨ c = .leaveReceived m) ∧ parseHello m.payload = none ∨
      c = .beaconReceived m ∧ ∃ a v b d f, parseHello m.payload = some (.beacon s.straps.geometryByte a v b d f)) →
    ∃ t, exec c s = .next t ∧ t.members.station = .outOfStep ∧ t.flagSet .canvasLost = true ∧ t.bus.framing.ackDue = false ∧
      (∀ n, (t.peer n).expected = (s.peer n).expected) ∧ t.stream.counter = s.stream.counter ∧
      t.stream.epoch = s.stream.epoch ∧ t.stream.outbound = s.stream.outbound ∧ t.stream.inbound <:+ s.stream.inbound ∧
      t.members.hello = (if t.stream.inbound = [] then some .leave else none) ∧ t.members.beaconTimer = none ∧
      t.barrier.pending = none ∧ (∀ x, t.edge.shift = some x → x.step ≠ .await) ∧ t.edge.outbox = [] ∧
      (∀ n, n ≠ m.originator ∨ ¬ leaves → (t.peer n).state = (s.peer n).state) ∧
      (leaves → (t.peer m.originator).state = .absent ∧ (t.peer m.originator).silence = none ∧
        (s.inRoster m.originator = true → t.flagSet .peerLeft = true)) ∧
      s.waitsOver t ∧ (s.edge.outbox ≠ [] → t.flagSet .edgeLost = true) ∧
      ∀ cls, messageOf c = some (cls, m) → ∃ v w : State,
        State.endsWaits { s.handed cls m false with
          members := { s.members with station := .outOfStep, listenTimer := none, beaconTimer := none, hello := none }
          events := { s.events with flags := s.events.flags ||| Event.canvasLost.bit } } v ∧
        w = { v with members := { v.members with hello := if v.stream.inbound = [] then some .leave else none } } ∧
        (¬ leaves → t = w) ∧
        (leaves → t = { w with
          peers := w.peers.modify m.originator.val (fun p => { p with state := .absent, silence := none })
          events := { w.events with flags :=
            (if s.inRoster m.originator then w.events.flags ||| Event.peerLeft.bit else w.events.flags) } })

/-- A LISTENING or JOINING station observes a CANVAS, VOTE, EDGE or malformed HELLO without taking or acking it: E becomes one past the
seq field, a well-formed PRESENT that is no duplicate advances S, a VOTE's epoch waits for the line end, and a gap restarts the listen
period in LISTENING (R71, R82, R92, R94, R116). -/
def Obligations.ObserversFollowTheStream : Prop :=
  ∀ (m : Received) (s : State) (u : MsgClass → State), s.observerHears m →
    (∀ cls, u cls = (s.handed cls m false).setExpected m.originator (m.seq + 1)) →
    exec (.canvasReceived m) s = .next { u .canvas with
      stream := { s.stream with epoch :=
        if (s.peer m.originator).expected ≠ some (m.seq + 1) ∧ isPresent s.straps m.payload = true then s.stream.epoch + 1
        else s.stream.epoch }
      members :=
        if s.members.station = .listening ∧
            (s.peer m.originator).expected.any (fun e => decide (m.seq ≠ e ∧ m.seq ≠ e - 1)) = true then
          { s.members with listenTimer := some 0 } else s.members } ∧
    ∀ members : Members, members =
        (if s.members.station = .listening ∧ (s.peer m.originator).expected.any (fun e => decide (m.seq ≠ e - 1)) = true then
          { s.members with listenTimer := some 0 } else s.members) →
      exec (.edgeReceived m) s = .next { u .edge with members := members } ∧
      (∀ t : Epoch, m.payload = bytes16 t → exec (.voteReceived m) s = .next { u .vote with
        members := members, barrier := { s.barrier with pendingVote := some (m.originator, t) } }) ∧
      (m.payload.length ≠ 2 → exec (.voteReceived m) s = .next { u .vote with members := members }) ∧
      (parseHello m.payload = none →
        exec (.beaconReceived m) s = .next { u .hello with members := members } ∧
        exec (.joinReceived m) s = .next { u .hello with members := members } ∧
        exec (.leaveReceived m) s = .next { u .hello with members := members })

/-- A MEMBER station acks a well-formed VOTE whose gap check passes, whatever the sender's entry, and holds its epoch until the line
end; a VOTE of another length is neither recorded nor acked (R116, R117). -/
def Obligations.VoteWaitsForTheLineEnd : Prop :=
  ∀ (m : Received) (s : State), s.memberHears m →
    ((s.peer m.originator).expected = none ∨ (s.peer m.originator).expected = some (m.seq + 1)) →
    (∀ t : Epoch, m.payload = bytes16 t → exec (.voteReceived m) s =
      .next { s.handed .vote m true with barrier := { s.barrier with pendingVote := some (m.originator, t) } }) ∧
    (m.payload.length ≠ 2 → exec (.voteReceived m) s = .next (s.handed .vote m false))

/-- The rows that follow the line. LINE_END, LINE_PLACED, END_FIELD_UNSYNCED and a length above 160 move the framing stage to IDLE or
UNSYNCED: a voted epoch that waits is written there, the later kept, and a pending barrier whose condition then holds commits. A
break at its 9th bit and a bad CRC only move the stage. Each bit time moves the stage and the run counts by R42's table, with the level
that the line coding gives a bit of a message's fields: within a message neither run passes 8. Outside those fields a bit that reads 0
is dominant. A LINE_END told in the ack field passes slots, and the own slot resets the recessive run when the station drives it (R39,
R42, R43, R44, R46, R117, R119). Where the coding turns the level is the model's choice (log 26), and so is that the bit times of others
that a row passes over are recessive (log 13). -/
def Obligations.LineRowsMoveTheStage : Prop :=
  (∀ (s : State), s.held = false → s.bus.tx = none →
    (∀ (c : Instr) (f : Framing) (own : Option Station) (u : State),
      own = (if s.bus.framing.ackDue = true ∧ s.members.station ≠ .strapFault ∧ s.members.station ≠ .busFault then some s.straps.n
        else none) →
      (c = .lineEnd ∧ (s.bus.framing.stage = .ack ∨ s.bus.framing.stage = .ending ∨ s.bus.framing.stage = .break) ∧
          f = s.bus.framing.quiet own ∨
        c = .linePlaced ∧ (s.bus.framing.stage = .unsynced ∨ s.bus.framing.stage = .break) ∧ f = s.bus.framing.quiet own ∨
        c = .endFieldUnsynced ∧ (s.bus.framing.stage = .ack ∨ s.bus.framing.stage = .ending) ∧
          f = { stage := .unsynced, recRun := 0, domRun := 1, gap := 0, requiredGap := 11, position := 0, bits := []
                ackDue := false } ∨
        ∃ (before after : List Bool) (l : Byte), before.length = 18 ∧ c = .badCrc (before ++ fieldBits l ++ after) ∧
          160 < l.toNat ∧ (s.bus.framing.stage = .frame ∨ s.bus.framing.stage = .idle) ∧
          f = { stage := .unsynced, recRun := 0, domRun := 0, gap := 0, requiredGap := 11, position := 0, bits := []
                ackDue := false }) →
      (s.barrier.pendingVote = none → exec c s = .next (s.setFraming f)) ∧
      ∀ n t, s.barrier.pendingVote = some (n, t) →
        u = { s.setFraming f with
          barrier := { s.barrier with pendingVote := none }
          peers := s.peers.modify n.val fun p => { p with voted := match p.voted with
            | some v => some (if epochAtOrAfter t v then t else v)
            | none => some t } } →
        (s.barrier.pending = none → exec c s = .next u) ∧
        ∀ b, s.barrier.pending = some b →
          (u.voteDone b → exec c s = .next (u.commitFor b).settle) ∧ (¬ u.voteDone b → exec c s = .next u)) ∧
    exec .breakSeen s = .next (s.setFraming { Framing.reset with stage := .break, domRun := 9 }) ∧
    ∀ (before after : List Bool) (l : Byte), before.length = 18 → l.toNat ≤ 160 →
      s.bus.framing.stage ≠ .unsynced → s.bus.framing.stage ≠ .break →
      exec (.badCrc (before ++ fieldBits l ++ after)) s = .next (s.setFraming { s.bus.framing with
        stage := .ack, position := 0, bits := [], domRun := 0, recRun := lastRun (before ++ fieldBits l ++ after)
        ackDue := false })) ∧
  (∀ (f : Framing) (own : Option Station), f.stage ≠ .idle → f.stage ≠ .frame →
    f.quiet own = { stage := .idle, gap := if f.stage = .break then 1 else 0, requiredGap := 11, position := 0, bits := []
                    ackDue := false, domRun := 0
                    recRun := match f.stage with
                      | .ack => (match own with
                        | some n => if f.position ≤ n.val then 15 - n.val else f.recRun + (16 - f.position)
                        | none => f.recRun + (16 - f.position)) + 7
                      | .ending => f.recRun + (7 - f.position)
                      | .break => 1
                      | .unsynced | .idle | .frame => 32 }) ∧
  (∀ (f g : Framing) (b : LineBit) (zero dominant : Bool),
    zero = (match b with | .released => false | .coded z => z | .held => true) →
    dominant = (match b with
      | .released => false
      | .coded z => if f.stage = .unsynced ∨ f.stage = .frame then (if z = true then decide (f.domRun < 8) else decide (8 ≤ f.recRun))
        else z
      | .held => true) →
    g = (if dominant = true then { f with domRun := f.domRun + 1, recRun := 0 }
      else { f with domRun := 0, recRun := f.recRun + 1 }) →
    ∀ placed broken start : Framing,
      placed = { g with stage := .idle, gap := 0, requiredGap := 11, position := 0, bits := [], ackDue := false } →
      broken = { g with stage := .break, gap := 0, requiredGap := 11, position := 0, bits := [], ackDue := false } →
      start = { stage := .frame, recRun := 0, domRun := 1, gap := 0, requiredGap := 11, position := 0, bits := [false]
                ackDue := false } →
      (f.stage = .unsynced → f.follow b = if 9 ≤ g.domRun then broken else if 32 ≤ g.recRun then placed else g) ∧
      (f.stage = .idle → f.follow b = if zero = true then start else { g with gap := f.gap + 1 }) ∧
      (f.stage = .frame → f.follow b = if 9 ≤ g.domRun then broken else { g with bits := f.bits ++ [!zero] }) ∧
      (f.stage = .ack → f.follow b = { f with
        recRun := g.recRun
        stage := if f.position < 15 then .ack else .ending
        position := if f.position < 15 then f.position + 1 else 0
        domRun := if f.position < 15 then f.domRun else 0 }) ∧
      (f.stage = .ending → f.follow b =
        if zero = true then
          (if f.position = 0 then start else { start with stage := .unsynced, bits := [] })
        else if f.position < 6 then { g with position := f.position + 1 } else placed) ∧
      (f.stage = .break → f.follow b = if zero = true then g else { placed with gap := 1 })) ∧
  ∀ (bits : List Bool) (start : Framing),
    start = { stage := .frame, recRun := 0, domRun := 1, gap := 0, requiredGap := 11, position := 0, bits := [false]
              ackDue := false } →
    lastRun bits ≤ 8 ∧ lastRun (false :: bits) = (bits.foldl (fun f bit => f.follow (.coded (!bit))) start).recRun

/-- A strip at a MEMBER station whose gap check passes is judged by the first case of the table that applies (R142, R143): a stale
one, one for the shift in progress, one that the inbox knows, one that the inbox has a place for. One sequence number is after
another in the serial order of 00 ("Serial comparison"). -/
def Obligations.StripIsJudgedByTheFirstCase : Prop :=
  (∀ a b : Byte, seqAfter a b = true ↔ 1 ≤ (a.toNat + 256 - b.toNat) % 256 ∧ (a.toNat + 256 - b.toNat) % 256 ≤ 127) ∧
  ∀ (m : Received) (s : State), s.memberHears m →
    ((s.peer m.originator).expected = none ∨ (s.peer m.originator).expected = some (m.seq + 1)) →
    (parseEdge m.payload = none → exec (.edgeReceived m) s = .next (s.handed .edge m false)) ∧
    ∀ p : EdgePayload, parseEdge m.payload = some p →
      (p.target ≠ s.straps.n → exec (.edgeReceived m) s = .next (s.handed .edge m false)) ∧
      (p.target = s.straps.n →
        (∀ a, (s.peer p.originator).applied = some a → seqAfter p.seq a = false →
          exec (.edgeReceived m) s = .next (s.handed .edge m true)) ∧
        ((∀ a, (s.peer p.originator).applied = some a → seqAfter p.seq a = true) →
          (∀ x, s.edge.shift = some x → x.originator = p.originator → x.seq = p.seq →
            (x.direction ≠ p.direction ∨ x.k ≠ p.k → exec (.edgeReceived m) s = .next (s.handed .edge m false)) ∧
            (x.direction = p.direction → x.k = p.k →
              (x.strip ≠ none ∨ x.step = .fill → exec (.edgeReceived m) s = .next (s.handed .edge m true)) ∧
              (x.strip = none → x.step = .await → exec (.edgeReceived m) s = .next { s.handed .edge m true with
                edge := { s.edge with shift := some { x with step := .fill, strip := some p.data }, timer := none }
                raster := { s.raster with engine := .applying, issued := 0 } }) ∧
              (x.strip = none → (x.step = .capture ∨ x.step = .move) →
                (∀ f ∈ s.edge.inbox, ¬ (f.originator = p.originator ∧ f.seq = p.seq)) →
                exec (.edgeReceived m) s = .next { s.handed .edge m true with
                  edge := { s.edge with shift := some { x with strip := some p.data } } }) ∧
              (x.strip = none → (x.step = .capture ∨ x.step = .move) → ∀ e before after,
                s.edge.inbox = before ++ e :: after → e.originator = p.originator → e.seq = p.seq →
                (∀ f ∈ before, ¬ (f.originator = p.originator ∧ f.seq = p.seq)) →
                exec (.edgeReceived m) s = .next (s.handed .edge m (decide (e.direction = p.direction ∧ e.k = p.k)))))) ∧
          ((∀ x, s.edge.shift = some x → ¬ (x.originator = p.originator ∧ x.seq = p.seq)) →
            (∀ e before after, s.edge.inbox = before ++ e :: after → e.originator = p.originator → e.seq = p.seq →
              (∀ f ∈ before, ¬ (f.originator = p.originator ∧ f.seq = p.seq)) →
              (e.direction = p.direction ∧ e.k = p.k → exec (.edgeReceived m) s = .next (s.handed .edge m true)) ∧
              (e.direction ≠ p.direction ∨ e.k ≠ p.k → exec (.edgeReceived m) s = .next (s.handed .edge m false))) ∧
            ((∀ f ∈ s.edge.inbox, ¬ (f.originator = p.originator ∧ f.seq = p.seq)) →
              (s.edge.inbox.length < 2 → exec (.edgeReceived m) s = .next { s.handed .edge m true with
                edge := { s.edge with inbox := s.edge.inbox ++
                  [{ originator := p.originator, seq := p.seq, direction := p.direction, k := p.k, data := p.data }] } }) ∧
              (2 ≤ s.edge.inbox.length → exec (.edgeReceived m) s = .next (s.handed .edge m false))))))

/-- A BEACON of this geometry. A MEMBER station whose gap check passes compares S and then digests with a roster peer, raises DIVERGED
with the peer's mark and a record that keeps the first divergence, and holds V until the line end; it does nothing with a BEACON of a
peer outside the roster. A LISTENING or JOINING station makes the peer a candidate, follows E, and takes the BEACON's S
(R71, R82, R93, R100, R109, R128). -/
def Obligations.BeaconIsComparedOrObserved : Prop :=
  ∀ (m : Received) (s : State) (e v c : Epoch) (d : BitVec 32) (complete : Bool),
    parseHello m.payload = some (.beacon s.straps.geometryByte e v c d complete) →
    (s.memberHears m →
      ((s.peer m.originator).expected = none ∨ (s.peer m.originator).expected = some (m.seq + 1)) →
      (s.inRoster m.originator = false → exec (.beaconReceived m) s = .next (s.handed .hello m false)) ∧
      (s.inRoster m.originator = true → ∀ differs : Prop,
        (differs ↔ complete = true ∧ ∃ own, lookupHistory s.raster.history c = some own ∧ own.complete = true ∧
          own.digest ≠ d) →
        (e = s.stream.epoch → ¬ differs → exec (.beaconReceived m) s = .next { s.handed .hello m false with
          barrier := { s.barrier with pendingVote := some (m.originator, v) } }) ∧
        (e ≠ s.stream.epoch ∨ differs → ∃ t, exec (.beaconReceived m) s = .next t ∧
          t = { (s.handed .hello m false).setPeer m.originator (fun p => { p with diverged := true }) with
            barrier := { s.barrier with pendingVote := some (m.originator, v) }
            events := { s.events with flags := s.events.flags ||| Event.diverged.bit }
            members := { s.members with divergence := t.members.divergence } } ∧
          (∀ r, s.members.divergence = some r → t.members.divergence = some r) ∧
          (s.members.divergence = none → e ≠ s.stream.epoch → t.members.divergence =
            some { peer := m.originator, cause := .streamEpoch, epoch := s.barrier.committed
                   own := s.stream.epoch.setWidth 32, theirs := e.setWidth 32 }) ∧
          (s.members.divergence = none → e = s.stream.epoch → ∃ own, lookupHistory s.raster.history c = some own ∧
            t.members.divergence =
              some { peer := m.originator, cause := .digest, epoch := c, own := own.digest, theirs := d })))) ∧
    (s.observerHears m → s.nothingWaits ∨ s.inRoster m.originator = true →
      exec (.beaconReceived m) s = .next { s.handed .hello m false with
        peers := s.peers.modify m.originator.val fun p =>
          { p with state := .member, silence := some 0, expected := some (m.seq + 1) }
        stream := { s.stream with epoch := e }
        barrier := { s.barrier with pendingVote := some (m.originator, v) }
        members :=
          if s.members.station = .listening ∧ (s.peer m.originator).expected.any (fun f => decide (m.seq ≠ f - 1)) = true then
            { s.members with listenTimer := some 0 } else s.members })

/-- A JOIN of this geometry, from a FOREIGN sender too. A MEMBER station with the same S admits the joiner: MEMBER, its silence timer
at 0, E one past the seq field, its voted epoch the JOIN's; it acks and raises PEER_JOINED. A sender that was not in the roster is a
roster change; where it was, the commit condition is evaluated and the outbox not checked. With another S it raises DIVERGED, drops a
roster peer with PEER_LEFT, sets E and does not ack. A LISTENING or JOINING station makes it a candidate; an OUT_OF_STEP station
only clears FOREIGN (R57, R70, R89, R93, R96, R97, R98, R107, R118, R119). -/
def Obligations.JoinIsAdmittedRefusedOrObserved : Prop :=
  ∀ (m : Received) (s : State) (e : Epoch), s.follows → m.originator ≠ s.straps.n →
    parseHello m.payload = some (.join s.straps.geometryByte e) →
    (s.members.station = .member → e = s.stream.epoch → ∀ v : State,
      v = { s.handed .hello m true with
        peers := s.peers.modify m.originator.val fun p =>
          { p with state := .member, silence := some 0, expected := some (m.seq + 1), voted := some e }
        events := { s.events with flags := s.events.flags ||| Event.peerJoined.bit } } →
      (s.inRoster m.originator = false → exec (.joinReceived m) s = .next v.rosterChanged) ∧
      (s.inRoster m.originator = true → (s.barrier.pending = none → exec (.joinReceived m) s = .next v) ∧
        ∀ b, s.barrier.pending = some b →
          (v.voteDone b → exec (.joinReceived m) s = .next (v.commitFor b).settle) ∧
          (¬ v.voteDone b → exec (.joinReceived m) s = .next v))) ∧
    (s.members.station = .member → e ≠ s.stream.epoch → ∀ v : State,
      v = { s.handed .hello m false with
        peers := s.peers.modify m.originator.val fun p => { p with
          state := match p.state with | .member => .dropped | .foreign => .absent | st => st
          silence := if p.state = .member then none else p.silence
          expected := some (m.seq + 1), diverged := true }
        members := { s.members with divergence := match s.members.divergence with
          | some r => some r
          | none => some { peer := m.originator, cause := .joinEpoch, epoch := s.barrier.committed
                           own := s.stream.epoch.setWidth 32, theirs := e.setWidth 32 } }
        events := { s.events with flags :=
          (if s.inRoster m.originator then s.events.flags ||| Event.diverged.bit ||| Event.peerLeft.bit
           else s.events.flags ||| Event.diverged.bit) } } →
      exec (.joinReceived m) s = .next (if s.inRoster m.originator then v.rosterChanged else v)) ∧
    (s.members.station = .listening ∨ s.members.station = .joining →
      s.nothingWaits ∨ s.inRoster m.originator = true ∧ s.barrier.pending = none →
      exec (.joinReceived m) s = .next { s.handed .hello m false with
        peers := s.peers.modify m.originator.val fun p =>
          { p with state := .member, silence := some 0, expected := some (m.seq + 1), voted := some e } }) ∧
    (s.members.station = .outOfStep → exec (.joinReceived m) s = .next { s.handed .hello m false with
      peers := s.peers.modify m.originator.val fun p => { p with
        state := match p.state with | .foreign => .absent | st => st
        silence := if p.state = .member then some 0 else p.silence } })

/-- A LEAVE of this geometry makes its sender ABSENT, and a HELLO of another geometry makes its sender FOREIGN with GEOMETRY: a roster
peer's silence timer stops, PEER_LEFT is raised and the roster change is told. Neither is acked; the HELLO of another geometry
changes no E, and LISTENING and JOINING stations follow E on the LEAVE (R71, R88, R90, R103, R107). -/
def Obligations.LeaveAndForeignGeometry : Prop :=
  ∀ (m : Received) (s : State), s.follows → m.originator ≠ s.straps.n →
    (s.inRoster m.originator = false → (s.peer m.originator).silence = none) →
    (parseHello m.payload = some (.leave s.straps.geometryByte) → s.isForeign m.originator = false →
      (s.members.station = .member ∧
          ((s.peer m.originator).expected = none ∨ (s.peer m.originator).expected = some (m.seq + 1)) ∨
        s.members.station = .listening ∨ s.members.station = .joining ∨ s.members.station = .outOfStep) →
      ∀ v : State, v = { s.handed .hello m false with
          peers := s.peers.modify m.originator.val fun p => { p with
            state := .absent, silence := none
            expected := if s.members.station = .listening ∨ s.members.station = .joining then some (m.seq + 1)
              else p.expected }
          members :=
            if s.members.station = .listening ∧
                (s.peer m.originator).expected.any (fun f => decide (m.seq ≠ f - 1)) = true then
              { s.members with listenTimer := some 0 } else s.members
          events := { s.events with flags :=
            (if s.inRoster m.originator then s.events.flags ||| Event.peerLeft.bit else s.events.flags) } } →
        exec (.leaveReceived m) s = .next (if s.inRoster m.originator then v.rosterChanged else v)) ∧
    ∀ (h : Hello) (g : Byte), parseHello m.payload = some h →
      (h = .leave g ∨ (∃ a, h = .join g a) ∨ ∃ a b c d f, h = .beacon g a b c d f) → g ≠ s.straps.geometryByte →
      s.members.station ≠ .strapFault → s.members.station ≠ .busFault →
      ∀ v : State, v = { s.handed .hello m false with
          peers := s.peers.modify m.originator.val fun p => { p with state := .foreign, silence := none }
          events := { s.events with flags :=
            (if s.inRoster m.originator then s.events.flags ||| Event.geometry.bit ||| Event.peerLeft.bit
             else s.events.flags ||| Event.geometry.bit) } } →
        exec (receptionOf .hello m) s = .next (if s.inRoster m.originator then v.rosterChanged else v)

/-- The messages a station does not act on. In STRAP_FAULT and BUS_FAULT it follows the line alone (R45, R61). A message with its own
number takes it to BUS_FAULT, with nothing appended and nothing driven, and ends its waits: EDGE_LOST for a queued strip, EDGE_TIMEOUT
and a fill of 0 for a wait in AWAIT, and the commit of a pending barrier (R57, R105, R106, R121, R139). A FOREIGN sender's
messages, in OUT_OF_STEP a CANVAS, VOTE, EDGE, BEACON or malformed HELLO, and in MEMBER a malformed HELLO that shows no gap, are neither
acked nor handed on (R72, R92, R100, R107, R116). -/
def Obligations.MessagesWithoutEffect : Prop :=
  ∀ (cls : MsgClass) (c : Instr) (m : Received) (s : State), s.follows → m.payload.length ≤ 160 → messageOf c = some (cls, m) →
    (s.members.station = .strapFault ∨ s.members.station = .busFault → exec c s = .next (s.setFraming { s.bus.framing with
      stage := .ack, position := 0, bits := [], domRun := 0, recRun := lastRun (frameBits cls m), ackDue := false })) ∧
    (s.members.station ≠ .strapFault → s.members.station ≠ .busFault →
      (m.originator = s.straps.n → ∃ t, exec c s = .next t ∧ t.members.station = .busFault ∧ t.flagSet .busFault = true ∧
        t.stream.inbound <:+ s.stream.inbound ∧ t.stream.epoch = s.stream.epoch ∧ t.stream.counter = s.stream.counter ∧
        t.members.listenTimer = none ∧ t.members.beaconTimer = none ∧ t.members.hello = s.members.hello ∧
        (∀ n, (t.peer n).silence = none ∧ (t.peer n).state = (s.peer n).state) ∧ t.edge.outbox = [] ∧
        t.barrier.pending = none ∧ t.bus.framing.ackDue = false ∧ t.drivesTbd = false ∧
        s.waitsOver t ∧ (s.edge.outbox ≠ [] → t.flagSet .edgeLost = true) ∧
        State.endsWaits { s with
          bus := { s.bus with framing := { s.bus.framing with
            stage := .ack, position := 0, bits := [], domRun := 0, recRun := lastRun (frameBits cls m), ackDue := false } }
          members := { s.members with station := .busFault, listenTimer := none, beaconTimer := none }
          peers := s.peers.map (fun p => { p with silence := none })
          events := { s.events with flags := s.events.flags ||| Event.busFault.bit } } t) ∧
      (m.originator ≠ s.straps.n → s.isForeign m.originator = true →
        (cls ≠ .hello ∨ parseHello m.payload = none ∨
          c = .leaveReceived m ∧ parseHello m.payload = some (.leave s.straps.geometryByte) ∨
          ∃ a b x d f, c = .beaconReceived m ∧
            parseHello m.payload = some (.beacon s.straps.geometryByte a b x d f)) →
        exec c s = .next (s.handed cls m false)) ∧
      (m.originator ≠ s.straps.n → s.isForeign m.originator = false → s.members.station = .outOfStep →
        (cls ≠ .hello ∨ parseHello m.payload = none ∨
          ∃ a b x d f, c = .beaconReceived m ∧
            parseHello m.payload = some (.beacon s.straps.geometryByte a b x d f)) →
        exec c s = .next (s.handed cls m false)) ∧
      (m.originator ≠ s.straps.n → s.isForeign m.originator = false → s.members.station = .member →
        ((s.peer m.originator).expected = none ∨ (s.peer m.originator).expected = some (m.seq + 1)) →
        cls = .hello → parseHello m.payload = none → exec c s = .next (s.handed cls m false)))

/-! ### Roster changes and timers -/

/-- What a roster change does (R57, R89, R119, R121): the outbox is checked; a pending barrier whose condition now holds commits, and
one whose condition does not hold waits on; and nothing happens where nothing waits. What the check of the outbox does (R57, R136,
R145): records at its head that are not eligible are discarded with EDGE_LOST, but for one that is being sent; a capture that waits
is made when a place is free, and its record, when it becomes the head, is checked in turn. -/
def Obligations.RosterChangeFreesWhatWaits : Prop :=
  ∀ s : State,
    (s.nothingWaits → s.rosterChanged = s) ∧
    (s.outboxSettled → ∀ b, s.barrier.pending = some b →
      (s.voteDone b → s.rosterChanged = (s.commitFor b).settle) ∧ (¬ s.voteDone b → s.rosterChanged = s)) ∧
    (s.barrier.pending = none → s.rosterChanged = s.recheckOutbox) ∧
    ∀ (eligible : OutboxRecord → Bool) (checked : List OutboxRecord → Option Shift → State),
      (∀ r, eligible r = true ↔ (s.members.station = .member ∧ (s.peer r.target).state = .member) ∨
        ∃ x n, s.bus.tx = some x ∧ x.owner = .edge n) →
      (∀ queued shift, checked queued shift = { s with
        edge := { s.edge with outbox := queued.dropWhile (fun r => !eligible r), shift := shift }
        events := { s.events with flags :=
          (if queued.head?.any (fun r => !eligible r) then s.events.flags ||| Event.edgeLost.bit else s.events.flags) } }) →
      ((∀ x, s.edge.shift = some x → x.step ≠ .capture) → s.recheckOutbox = checked s.edge.outbox s.edge.shift) ∧
      ∀ x, s.edge.shift = some x → x.step = .capture →
        (s.straps.target x.direction x.rotate = none →
          s.recheckOutbox = checked s.edge.outbox (some { x with step := .move })) ∧
        (s.straps.target x.direction x.rotate = some s.straps.n.val → s.recheckOutbox =
          checked s.edge.outbox (some { x with step := .move, strip := some (captureStrip x.direction x.k s.drawPlane) })) ∧
        ∀ n : Station, n ≠ s.straps.n → s.straps.target x.direction x.rotate = some n.val →
          ((s.edge.outbox.dropWhile (fun r => !eligible r)).length < 2 → s.recheckOutbox =
            checked (s.edge.outbox ++ [{ originator := x.originator, seq := x.seq, direction := x.direction, k := x.k, target := n
                                         data := captureStrip x.direction x.k s.drawPlane }])
              (some { x with step := .move })) ∧
          (2 ≤ (s.edge.outbox.dropWhile (fun r => !eligible r)).length →
            s.recheckOutbox = checked s.edge.outbox (some x))

/-- The timers' ends. The listen period ends in JOINING with a JOIN pending; the beacon interval with a BEACON pending and the timer
stopped; a silent roster peer is DROPPED with PEER_LEFT; a wait for a strip ends with a fill of 0 and EDGE_TIMEOUT
(R90, R94, R99, R139). That an expiry is told by its row while the timer runs is the model's choice (log 3). -/
def Obligations.TimersEnd : Prop :=
  ∀ s : State, s.held = false →
    (∀ a, s.members.station = .listening → s.members.listenTimer = some a → s.outboxSettled →
      exec .listenTimerExpiry s = .next { s with members := { s.members with
        station := .joining, listenTimer := none, hello := some .join } }) ∧
    (∀ a, s.members.station = .member → s.members.beaconTimer = some a →
      exec .beaconTimerExpiry s = .next { s with members := { s.members with beaconTimer := none, hello := some .beacon } }) ∧
    (∀ (n : Station) a, s.inRoster n = true → (s.peer n).silence = some a →
      exec (.silenceTimeout n) s = .next (State.rosterChanged { s with
        peers := s.peers.modify n.val fun p => { p with state := .dropped, silence := none }
        events := { s.events with flags := s.events.flags ||| Event.peerLeft.bit } })) ∧
    ∀ x a, s.edge.timer = some a → s.edge.shift = some x → x.step = .await →
      exec .edgeTimeout s = .next { s with
        edge := { s.edge with shift := some { x with step := .fill, strip := none }, timer := none }
        raster := { s.raster with engine := .applying, issued := 0 }
        events := { s.events with flags := s.events.flags ||| Event.edgeTimeout.bit } }

/-- The barrier timer's expiry commits unaligned: the late set is the roster peers that have not voted, BARRIER_LATE, COMMIT and FRAME
are raised, the planes exchange roles, C is the tag, the frame restarts at row 0 of the new picture, and the PRESENT completes, or the
engine copies for SWAP_COPY; a completion takes the next record. No roster and no peer state changes (R24, R31, R122, R123, R150).
That the expiry is told by its row while the timer runs is the model's choice (log 3). -/
def Obligations.BarrierTimeoutCommits : Prop :=
  ∀ (s : State) (t : Epoch) (a : Nat) (r : InRecord) (rest : List InRecord) (copy : Bool), s.held = false →
    s.barrier.pending = some t → s.barrier.timer = some a → s.stream.inbound = r :: rest →
    parseOp s.straps r.bytes = some (.present copy) →
    ∀ (b : Barrier) (u : State),
      b = { s.barrier with
        shown := s.barrier.shown.other, committed := t, timer := none, pending := none
        late := stations.filter fun n => s.inRoster n && !(match (s.peer n).voted with
          | some v => epochAtOrAfter v t
          | none => false) } →
      u = { s with
        barrier := b
        scan := { row := 0, timer := some 0, out := State.formRow { s with barrier := b } 0 }
        events := { s.events with flags :=
          s.events.flags ||| Event.barrierLate.bit ||| Event.frame.bit ||| Event.commit.bit } } →
      (copy = true → exec .barrierTimeout s = .next { u with raster := { s.raster with engine := .copying, issued := 0 } }) ∧
      (copy = false → exec .barrierTimeout s = .next (u.completed r rest).settle)

/-! ### Raster work and scan -/

/-- An IDLE engine takes the head record. Its words are folded into the digest first: originator × 256 + sequence, then the bytes two
at a time, an odd last one with a low byte of 0, D becoming D × 31 + w modulo 2^32. A malformed record, and a FILL or STRIP with
nothing to write, completes at once, and the engine takes the next; another FILL or STRIP is applied; a SHIFT begins with its capture:
no target, the own tile, an outbox record, or a wait for a place. A record appended to an empty outbox is its head, and is discarded
with EDGE_LOST when the station is not MEMBER or the target is outside the roster; a head that stands there already is not checked. The
target and the source are the neighbours of R135 by direction and edge mode. A PRESENT in MEMBER records its digest, sets the VOTE slot
and starts the barrier timer, and elsewhere commits at once (R24, R25, R26, R27, R28, R30, R31, R57, R114, R125, R126, R135, R136,
R145). -/
def Obligations.RecordIsTakenByItsKind : Prop :=
  (∀ (D : BitVec 32) (r : InRecord) (words : List (BitVec 32)), words.length = 1 + (r.bytes.length + 1) / 2 →
    words[0]? = some (BitVec.ofNat 32 (256 * r.originator.val + r.seq.toNat)) →
    (∀ i, i < (r.bytes.length + 1) / 2 → words[i + 1]? =
      some (BitVec.ofNat 32 (256 * ((r.bytes[2 * i]?).getD 0).toNat + ((r.bytes[2 * i + 1]?).getD 0).toNat))) →
    foldRecord D r = words.foldl (fun d w => d * 31 + w) D) ∧
  (∀ (g : Straps) (rotate : Bool) (tc tr : Nat) (at' : Nat → Nat → Option Nat), tc = g.n.val % g.w → tr = g.n.val / g.w →
    (∀ c r, at' c r = some (r * g.w + c)) →
    ∀ left right up down : Option Nat,
      left = (if tc ≠ 0 then at' (tc - 1) tr else if rotate = true then at' (g.w - 1) tr else none) →
      right = (if tc + 1 ≠ g.w then at' (tc + 1) tr else if rotate = true then at' 0 tr else none) →
      up = (if tr ≠ 0 then at' tc (tr - 1) else if rotate = true then at' tc (g.h - 1) else none) →
      down = (if tr + 1 ≠ g.h then at' tc (tr + 1) else if rotate = true then at' tc 0 else none) →
      (g.target .left rotate = left ∧ g.source .left rotate = right) ∧ (g.target .right rotate = right ∧ g.source .right rotate = left) ∧
      (g.target .up rotate = up ∧ g.source .up rotate = down) ∧ (g.target .down rotate = down ∧ g.source .down rotate = up)) ∧
  ∀ (s d : State) (r : InRecord) (rest : List InRecord), s.raster.engine = .idle → s.stream.inbound = r :: rest →
    d = { s with raster := { s.raster with digest := foldRecord s.raster.digest r } } →
    (r.malformed = true → s.settle = (d.completed r rest).settle) ∧
    (r.malformed = false → ∀ op, parseOp s.straps r.bytes = some op →
      ((∃ x y w h ink, op = .fill x y w h ink) ∨ (∃ x y mode data, op = .strip x y mode data) →
        (op.pixelCount s.straps = 0 → s.settle = (d.completed r rest).settle) ∧
        (op.pixelCount s.straps ≠ 0 → s.settle = { d with raster := { d.raster with engine := .applying, issued := 0 } })) ∧
      (∀ copy t, op = .present copy → r.tag = some t →
        ∀ e : Raster, e = { d.raster with
            history := (if 4 ≤ s.raster.history.length then s.raster.history.drop 1 else s.raster.history) ++
              [{ epoch := t, digest := d.raster.digest, complete := decide (s.raster.mark = .wholePicture) }]
            digest := 0, mark := .wholePicture, engine := .awaitBarrier, issued := 0 } →
          (s.members.station = .member → s.settle = { d with
            raster := e, barrier := { s.barrier with pending := some t, slot := some t, timer := some 0 } }) ∧
          (s.members.station ≠ .member → s.settle =
            (State.commitFor { d with raster := e, barrier := { s.barrier with pending := some t } } t).settle)) ∧
      (∀ dir k rotate, op = .shift dir k rotate →
        ∀ begun : Option (List Byte) → ShiftStep → List OutboxRecord → Bool → State,
          (∀ strip step outbox lost, begun strip step outbox lost = { d with
            raster := { d.raster with engine := .applying, issued := 0 }
            edge := { s.edge with
              outbox := outbox
              shift := some { originator := r.originator, seq := r.seq, direction := dir, k := k, rotate := rotate
                              step := step, strip := strip } }
            events := { s.events with flags := (if lost = true then s.events.flags ||| Event.edgeLost.bit else s.events.flags) } }) →
          (s.straps.target dir rotate = none → s.settle = begun none .move s.edge.outbox false) ∧
          (s.straps.target dir rotate = some s.straps.n.val →
            s.settle = begun (some (captureStrip dir k s.drawPlane)) .move s.edge.outbox false) ∧
          ∀ n : Station, n ≠ s.straps.n → s.straps.target dir rotate = some n.val → ∀ q : OutboxRecord,
            q = { originator := r.originator, seq := r.seq, direction := dir, k := k, target := n
                  data := captureStrip dir k s.drawPlane } →
            (s.edge.outbox = [] → (∀ x m, s.bus.tx = some x → x.owner ≠ .edge m) →
              (s.members.station = .member ∧ s.inRoster n = true → s.settle = begun none .move [q] false) ∧
              (s.members.station ≠ .member ∨ s.inRoster n = false → s.settle = begun none .move [] true)) ∧
            (s.edge.outbox.length = 1 → s.settle = begun none .move (s.edge.outbox ++ [q]) false) ∧
            (2 ≤ s.edge.outbox.length → s.settle = begun none .capture s.edge.outbox false)))

/-- The run of writes of a FILL or STRIP paints exactly the pixels of its part inside the window and on the canvas, by its ink or mode,
and leaves every other pixel of the draw plane; the record is then complete, and the engine takes the next (R10, R11, R12, R16, R17,
R24, R26, R27, R31). -/
def Obligations.FillAndStripPaintTheirPixels : Prop :=
  ∀ (s : State) (r : InRecord) (rest : List InRecord) (op : Op), s.held = false → s.raster.engine = .applying →
    s.edge.shift = none → s.raster.issued = 0 → s.stream.inbound = r :: rest → parseOp s.straps r.bytes = some op →
    0 < op.pixelCount s.straps → s.drawPlane.wf = true →
    ∃ t v : State, State.afterWrites (op.pixelCount s.straps) s = some t ∧ t = (v.completed r rest).settle ∧
      v = { s with
        raster := { s.raster with planeA := v.raster.planeA, planeB := v.raster.planeB, issued := v.raster.issued }
        watch := v.watch, events := { s.events with flags := v.events.flags } } ∧ v.shownPlane = s.shownPlane ∧
      ∀ c row x y : Nat, c < 144 → row < 48 →
        x = 144 * (s.straps.n.val % s.straps.w) + c → y = 48 * (s.straps.n.val / s.straps.w) + row →
        (t.plane s.barrier.shown.other).pixel c row =
          (match op with
          | .fill x0 y0 w h ink =>
            if x < 144 * s.straps.w ∧ y < 48 * s.straps.h ∧ x0 ≤ x ∧ x < x0 + w ∧ y0 ≤ y ∧ y < y0 + h then
              (match ink with | .set => true | .clear => false | .invert => !(s.drawPlane.pixel c row))
            else s.drawPlane.pixel c row
          | .strip x0 y0 mode data =>
            if x < 144 * s.straps.w ∧ y < 48 * s.straps.h ∧ x0 ≤ x ∧ x < x0 + data.length ∧ y0 ≤ y ∧ y < y0 + 8 then
              (match mode with
              | .replace => ((data[x - x0]?).getD 0).getLsbD (y - y0)
              | .or => s.drawPlane.pixel c row || ((data[x - x0]?).getD 0).getLsbD (y - y0)
              | .clearWhereSet => s.drawPlane.pixel c row && !((data[x - x0]?).getD 0).getLsbD (y - y0)
              | .xor => s.drawPlane.pixel c row != ((data[x - x0]?).getD 0).getLsbD (y - y0))
            else s.drawPlane.pixel c row
          | .shift _ _ _ | .present _ => s.drawPlane.pixel c row)

/-- The run of writes of a move brings every pixel that has a source in the tile its old content, k pixels along, and keeps the pixels
of the trailing strip. Its last write decides the fill: 0 with no source, the strip held, the inbox entry that fits, 0 with
EDGE_TIMEOUT outside MEMBER, or a wait with the edge timer at 0 (R18, R137, R138). For DOWN with k = 8 the bands written are the
model's reading (log 7). -/
def Obligations.ShiftMovesAndDecidesTheFill : Prop :=
  ∀ (s : State) (x : Shift), s.held = false → s.raster.engine = .applying → s.edge.shift = some x → x.step = .move →
    1 ≤ x.k → x.k ≤ 8 → s.raster.issued = 0 → s.drawPlane.wf = true →
    ∃ t, State.afterWrites (moveWrites x.direction x.k) s = some t ∧
      (∀ c row : Nat, c < 144 → row < 48 → t.drawPlane.pixel c row =
        (match x.direction with
        | .left => if c + x.k < 144 then s.drawPlane.pixel (c + x.k) row else s.drawPlane.pixel c row
        | .right => if x.k ≤ c then s.drawPlane.pixel (c - x.k) row else s.drawPlane.pixel c row
        | .up => if row + x.k < 48 then s.drawPlane.pixel c (row + x.k) else s.drawPlane.pixel c row
        | .down => if x.k ≤ row then s.drawPlane.pixel c (row - x.k) else s.drawPlane.pixel c row)) ∧
      t.shownPlane = s.shownPlane ∧ t.barrier = s.barrier ∧ t.stream = s.stream ∧ t.raster.issued = 0 ∧
      ∀ fills : Option (List Byte) → Prop,
        (∀ strip, fills strip ↔ t.raster.engine = .applying ∧ t.edge.timer = none ∧
          t.edge.shift = some { x with step := .fill, strip := strip }) →
        (s.straps.source x.direction x.rotate = none →
          fills none ∧ t.edge.inbox = s.edge.inbox ∧ t.flagSet .edgeTimeout = s.flagSet .edgeTimeout) ∧
        (s.straps.source x.direction x.rotate ≠ none →
          (∀ strip, x.strip = some strip →
            fills (some strip) ∧ t.edge.inbox = s.edge.inbox ∧ t.flagSet .edgeTimeout = s.flagSet .edgeTimeout) ∧
          (x.strip = none →
            (∀ e, s.edge.inbox.find? (·.fits x) = some e →
              fills (some e.data) ∧ t.edge.inbox = s.edge.inbox.filter (fun f => !f.fits x) ∧
                t.flagSet .edgeTimeout = s.flagSet .edgeTimeout) ∧
            ((∀ e ∈ s.edge.inbox, e.fits x = false) → t.edge.inbox = s.edge.inbox ∧
              (s.members.station ≠ .member → fills none ∧ t.flagSet .edgeTimeout = true) ∧
              (s.members.station = .member → t.raster.engine = .awaitEdge ∧ t.edge.timer = some 0 ∧
                t.edge.shift = some { x with step := .await } ∧ t.flagSet .edgeTimeout = s.flagSet .edgeTimeout))))

/-- The run of writes of a fill puts the strip, or 0, into the vacated pixels and keeps every other pixel; the SHIFT is then complete,
and the engine takes the next record (R18, R24, R31, R135, R140). -/
def Obligations.ShiftFillsTheVacatedPixels : Prop :=
  ∀ (s : State) (x : Shift) (r : InRecord) (rest : List InRecord), s.held = false → s.raster.engine = .applying →
    s.edge.shift = some x → x.step = .fill → 1 ≤ x.k → x.k ≤ 8 → s.raster.issued = 0 → s.drawPlane.wf = true →
    s.stream.inbound = r :: rest →
    ∃ t v : State, State.afterWrites (fillWrites x.direction x.k) s = some t ∧ t = (v.completed r rest).settle ∧
      v = { s with
        raster := { s.raster with planeA := v.raster.planeA, planeB := v.raster.planeB, issued := v.raster.issued }
        watch := v.watch, events := { s.events with flags := v.events.flags } } ∧ v.shownPlane = s.shownPlane ∧
      ∀ c row : Nat, c < 144 → row < 48 → ∀ strip : Nat → Byte, (∀ i, strip i = ((x.strip.getD [])[i]?).getD 0) →
        (t.plane s.barrier.shown.other).pixel c row =
          (match x.direction with
          | .left => if 144 ≤ c + x.k then (strip (6 * (c + x.k - 144) + row / 8)).getLsbD (row % 8)
            else s.drawPlane.pixel c row
          | .right => if c < x.k then (strip (6 * c + row / 8)).getLsbD (row % 8) else s.drawPlane.pixel c row
          | .up => if 48 ≤ row + x.k then (strip c).getLsbD (row + x.k - 48) else s.drawPlane.pixel c row
          | .down => if row < x.k then (strip c).getLsbD row else s.drawPlane.pixel c row)

/-- A write of the record in progress lands whole: the bits it sets take their new value, every other byte of the draw plane and the
shown plane keep theirs. Each enabled watch entry whose hit is clear and whose rectangle holds a pixel that the write sets records the
record's identity, and WATCH is raised when any did; no other entry changes (R6, R32, R164). -/
def Obligations.WriteLandsAndIsWatched : Prop :=
  ∀ (s : State) (p : PlaneWrite) (o : Station) (q : Byte), s.held = false → s.nextWrite = some (p, o, q) →
    s.drawPlane.wf = true → p.address < 864 →
    ∃ t, exec .drawPlaneWrite s = .next t ∧
      (∀ a, (t.plane s.barrier.shown.other).read a =
        if a = p.address then (s.drawPlane.read a &&& ~~~p.mask) ||| (p.value &&& p.mask) else s.drawPlane.read a) ∧
      t.plane s.barrier.shown = s.shownPlane ∧ t.watch.length = s.watch.length ∧
      ∀ hit : WatchEntry → Prop,
        (∀ w, hit w ↔ w.enabled = true ∧ w.firstHit = none ∧ ∃ i, i < 8 ∧ p.mask.getLsbD i = true ∧
          w.x0 ≤ 144 * (s.straps.n.val % s.straps.w) + p.address % 144 ∧
          144 * (s.straps.n.val % s.straps.w) + p.address % 144 ≤ w.x1 ∧
          w.y0 ≤ 48 * (s.straps.n.val / s.straps.w) + 8 * (p.address / 144) + i ∧
          48 * (s.straps.n.val / s.straps.w) + 8 * (p.address / 144) + i ≤ w.y1) →
        (t.flagSet .watch = true ↔ s.flagSet .watch = true ∨ ∃ w ∈ s.watch, hit w) ∧
        ∀ (e : Nat) (w : WatchEntry), s.watch[e]? = some w →
          (hit w → t.watch[e]? = some { w with firstHit := some (o, q) }) ∧ (¬ hit w → t.watch[e]? = some w)

/-- At the end of the copy of a SWAP_COPY both planes hold the shown picture, the PRESENT is complete, and the engine takes the next
record; no watch entry is told (R24, R31, R32, R124). That the row stands for all the copy's writes still to come is the model's choice
(log 17). -/
def Obligations.CopyMakesThePlanesEqual : Prop :=
  ∀ (s : State) (r : InRecord) (rest : List InRecord), s.held = false → s.raster.engine = .copying →
    s.stream.inbound = r :: rest → s.raster.planeA.wf = true → s.raster.planeB.wf = true →
    (∀ a, a < s.raster.issued → s.drawPlane.read a = s.shownPlane.read a) →
    ∀ v : State, v = { s with raster := { s.raster with planeA := s.shownPlane, planeB := s.shownPlane } } →
      exec .copyComplete s = .next (v.completed r rest).settle

/-- The row in progress ends: the next row starts, or after row 47 a new frame with FRAME, in every station state. Each column of the
new row combines the shown pixel and the overlay pixel by the combine setting, and the display mode and the contrast decide what is
driven; in OFF no line is selected. Neither plane is written (R148, R149, R151, R152, R153). That ROW_END ends the row whatever the row
timer's count is the model's choice (log 3), and so is that the next row's timer goes on with what this one counted past 1000
(log 16). -/
def Obligations.RowIsFormedFromBothPlanes : Prop :=
  ∀ (s : State) (r : Nat), s.held = false → r = (if s.scan.row < 47 then s.scan.row + 1 else 0) →
    ∃ t, exec .rowEnd s = .next t ∧
      t = { s with
        scan := { row := r, timer := some (s.scan.timer.getD 0 - 1000), out := t.scan.out }
        events := { s.events with flags := if s.scan.row < 47 then s.events.flags else s.events.flags ||| Event.frame.bit } } ∧
      (s.port.display.mode = .off → t.scan.out = .notSelected) ∧
      (s.port.display.mode ≠ .off → ∃ lit : List Bool, t.scan.out = .driven r lit (17 + s.port.display.contrast) ∧
        lit.length = 144 ∧ ∀ c, c < 144 → ∀ p : Bool,
          p = (match s.port.display.combine with
            | .none => s.shownPlane.pixel c r
            | .or => s.shownPlane.pixel c r || s.port.overlay.pixel c r
            | .xor => decide (s.shownPlane.pixel c r ≠ s.port.overlay.pixel c r)) →
          lit[c]? = some (match s.port.display.mode with | .reverse => !p | .allOn => true | .off | .normal => p))
end

