-- ==== Sys2Proof/Laws/Commands.lean ====
section
/-! SUPPORT. What the operations that the commands share can do, each said once, for the proofs to cite. -/

namespace Sys2Proof.Machine

/-- Every command answers a next state. -/
theorem exec_next (c : Instr) (s : State) : ∃ t, exec c s = .next t := by cases c <;> exact ⟨_, rfl⟩

/-! ### The local port -/

theorem portCommand_open {s : State} (h : s.portOpen) (rises : Bool) (f : State → State) : s.portCommand rises f = f s := by
  simp [State.portCommand, State.portDeaf, h.1, h.2]

theorem atRise_open {s : State} (h : s.portOpen) (f : State → State) :
    s.atRise f = (f s).setPort .idle s.port.out := by
  simp [State.atRise, portCommand_open h]

/-- What any port command comes to: it is told in an open transaction, brings its own falling edge, or finds the port deaf. -/
theorem portCommand_cases (s : State) (rises : Bool) (f : State → State) :
    s.portCommand rises f = s.ignoreBits rises ∨ s.portCommand rises f = f s ∨
      s.portCommand rises f = f s.beginTransaction := by
  unfold State.portCommand
  split
  · exact .inl rfl
  · split
    · exact .inr (.inl rfl)
    · exact .inr (.inr rfl)

/-! ### Events -/

theorem raiseIf_eq (s : State) (c : Bool) (e : Event) :
    s.raiseIf c e =
      { s with events := { s.events with flags := if c then s.events.flags ||| e.bit else s.events.flags } } := by
  cases c <;> rfl

/-! ### The peer table -/

theorem peer_setPeer (s : State) (n k : Station) (f : Peer → Peer) :
    (s.setPeer n f).peer k = if n = k ∧ k.val < s.peers.length then f (s.peer k) else s.peer k := by
  simp only [State.peer, State.setPeer, List.getElem?_modify]
  by_cases hk : k.val < s.peers.length
  · by_cases hn : n = k
    · subst hn; simp [hk]
    · have hv : ¬ n.val = k.val := fun h => hn (Fin.ext h)
      simp [hn, hv, hk]
  · simp [hk]

theorem Peer.heard_state (p : Peer) : p.heard.state = p.state := by unfold Peer.heard; split <;> rfl
theorem Peer.heard_expected (p : Peer) : p.heard.expected = p.expected := by unfold Peer.heard; split <;> rfl
theorem Peer.heard_applied (p : Peer) : p.heard.applied = p.applied := by unfold Peer.heard; split <;> rfl
theorem Peer.heard_voted (p : Peer) : p.heard.voted = p.voted := by unfold Peer.heard; split <;> rfl

theorem peer_handed (s : State) (cls : MsgClass) (m : Received) (b : Bool) (k : Station) :
    (s.handed cls m b).peer k = if k = m.originator then (s.peer k).heard else s.peer k := by
  have base : (s.handed cls m b).peer k =
      if m.originator = k ∧ k.val < s.peers.length then (s.peer k).heard else s.peer k := peer_setPeer _ _ _ _
  rw [base]
  by_cases hk : k = m.originator
  · subst hk
    by_cases hl : m.originator.val < s.peers.length
    · simp [hl]
    · have hp : s.peer m.originator = Peer.reset false := by
        simp [State.peer, List.getElem?_eq_none (Nat.le_of_not_lt hl)]
      simp [hl, hp, Peer.heard, Peer.reset]
  · simp [hk, Ne.symm hk]

theorem inRoster_handed (s : State) (cls : MsgClass) (m : Received) (b : Bool) (k : Station) :
    (s.handed cls m b).inRoster k = s.inRoster k := by
  unfold State.inRoster
  rw [peer_handed]
  split <;> simp [Peer.heard_state]

theorem isForeign_handed (s : State) (cls : MsgClass) (m : Received) (b : Bool) (k : Station) :
    (s.handed cls m b).isForeign k = s.isForeign k := by
  unfold State.isForeign
  rw [peer_handed]
  split <;> simp [Peer.heard_state]

/-! ### Receptions -/

/-- A station that hands messages on gives the message of another station to its blocks, the silence timer restarted. -/
theorem handOn_follows {s : State} {cls : MsgClass} {m : Received} (h : s.follows) (hl : m.payload.length ≤ Config.maxPayload)
    (h1 : s.members.station ≠ .strapFault) (h2 : s.members.station ≠ .busFault) (ho : m.originator ≠ s.straps.n)
    (f : State → State) : whenRunning s (fun s => s.handOn cls m f) = f (s.handed cls m false) := by
  obtain ⟨hh, ht, hs⟩ := h
  have hb : s.beforeMessage m.attempt = s := by
    unfold State.beforeMessage
    rcases hs with hs | hs <;> simp [hs]
  simp only [whenRunning, hh, State.handOn, State.transmitting, ht, hb]
  rw [if_neg (by simp), if_neg (by simp), if_neg (Nat.not_lt.mpr hl)]
  simp [State.handsOn, h1, h2, ho, State.setFraming, State.handed, State.restartSilence]

/-! ### The engine and the barrier -/

theorem settle_busy {s : State} (h : s.raster.engine ≠ .idle) : s.settle = s := by
  unfold State.settle
  cases s.stream.inbound.length <;> simp [State.settleFor, h]

theorem settle_empty {s : State} (h : s.stream.inbound = []) : s.settle = s := by
  unfold State.settle
  rw [h]
  rfl

/-- The commit condition as the Barrier Unit computes it is the condition as the statements word it (R119). -/
theorem commitReady_iff (s : State) (t : Epoch) : s.commitReady t = true ↔ s.voteDone t := by
  have key : ∀ v : Option Epoch, votedFor v t = true ↔ ∃ e, v = some e ∧ epochAtOrAfter e t = true := by
    intro v
    cases v <;> simp [votedFor]
  have mem : ∀ n : Station, n ∈ stations := by decide
  simp only [State.commitReady, State.voteDone, State.roster, Bool.and_eq_true, List.all_eq_true, List.mem_filter, key]
  exact and_congr_right fun _ => ⟨fun h n hn => h n ⟨mem n, hn⟩, fun h n hn => h n hn.2⟩

theorem evaluateCommit_none {s : State} (h : s.barrier.pending = none) : s.evaluateCommit = s := by
  simp [State.evaluateCommit, h]

theorem evaluateCommit_some {s : State} {t : Epoch} (h : s.barrier.pending = some t) :
    s.evaluateCommit = if s.commitReady t then (s.commitFor t).settle else s := by
  simp [State.evaluateCommit, h, State.commitNow]

theorem tryCapture_idle {s : State} (h : ∀ x, s.edge.shift = some x → x.step ≠ .capture) : s.tryCapture = s := by
  unfold State.tryCapture
  split
  · rename_i x hx
    simp [h x hx]
  · rfl

theorem discardIneligible_settled {s : State} (h : ∀ r rest, s.edge.outbox = r :: rest → s.edgeEligible r = true) :
    s.discardIneligible = s := by
  unfold State.discardIneligible
  split
  · rfl
  · cases hl : s.edge.outbox with
    | nil =>
      have hs : s.setOutbox [] = s := by unfold State.setOutbox; rw [← hl]
      simp [hs, State.raiseIf]
    | cons r rest =>
      have hs : s.setOutbox (r :: rest) = s := by unfold State.setOutbox; rw [← hl]
      simp [h r rest hl, hs, State.raiseIf]

end Sys2Proof.Machine
end

