-- ==== Sys2Proof/Laws/State.lean ====
section
/-! SUPPORT. What each named update of the state leaves as it was, and what it writes: one lemma per field and update. -/

namespace Sys2Proof.Machine

variable (s : State)

/-! ### setPeer -/

@[simp] theorem State.setPeer_straps (n : Station) (f : Peer → Peer) : (s.setPeer n f).straps = s.straps := rfl
@[simp] theorem State.setPeer_held (n : Station) (f : Peer → Peer) : (s.setPeer n f).held = s.held := rfl
@[simp] theorem State.setPeer_bus (n : Station) (f : Peer → Peer) : (s.setPeer n f).bus = s.bus := rfl
@[simp] theorem State.setPeer_stream (n : Station) (f : Peer → Peer) : (s.setPeer n f).stream = s.stream := rfl
@[simp] theorem State.setPeer_members (n : Station) (f : Peer → Peer) : (s.setPeer n f).members = s.members := rfl
@[simp] theorem State.setPeer_raster (n : Station) (f : Peer → Peer) : (s.setPeer n f).raster = s.raster := rfl
@[simp] theorem State.setPeer_barrier (n : Station) (f : Peer → Peer) : (s.setPeer n f).barrier = s.barrier := rfl
@[simp] theorem State.setPeer_edge (n : Station) (f : Peer → Peer) : (s.setPeer n f).edge = s.edge := rfl
@[simp] theorem State.setPeer_scan (n : Station) (f : Peer → Peer) : (s.setPeer n f).scan = s.scan := rfl
@[simp] theorem State.setPeer_port (n : Station) (f : Peer → Peer) : (s.setPeer n f).port = s.port := rfl
@[simp] theorem State.setPeer_watch (n : Station) (f : Peer → Peer) : (s.setPeer n f).watch = s.watch := rfl
@[simp] theorem State.setPeer_events (n : Station) (f : Peer → Peer) : (s.setPeer n f).events = s.events := rfl
@[simp] theorem State.setPeer_pending (n : Station) (f : Peer → Peer) : (s.setPeer n f).pending = s.pending := rfl

/-! ### mapPeers -/

@[simp] theorem State.mapPeers_straps (f : Peer → Peer) : (s.mapPeers f).straps = s.straps := rfl
@[simp] theorem State.mapPeers_held (f : Peer → Peer) : (s.mapPeers f).held = s.held := rfl
@[simp] theorem State.mapPeers_bus (f : Peer → Peer) : (s.mapPeers f).bus = s.bus := rfl
@[simp] theorem State.mapPeers_stream (f : Peer → Peer) : (s.mapPeers f).stream = s.stream := rfl
@[simp] theorem State.mapPeers_members (f : Peer → Peer) : (s.mapPeers f).members = s.members := rfl
@[simp] theorem State.mapPeers_raster (f : Peer → Peer) : (s.mapPeers f).raster = s.raster := rfl
@[simp] theorem State.mapPeers_barrier (f : Peer → Peer) : (s.mapPeers f).barrier = s.barrier := rfl
@[simp] theorem State.mapPeers_edge (f : Peer → Peer) : (s.mapPeers f).edge = s.edge := rfl
@[simp] theorem State.mapPeers_scan (f : Peer → Peer) : (s.mapPeers f).scan = s.scan := rfl
@[simp] theorem State.mapPeers_port (f : Peer → Peer) : (s.mapPeers f).port = s.port := rfl
@[simp] theorem State.mapPeers_watch (f : Peer → Peer) : (s.mapPeers f).watch = s.watch := rfl
@[simp] theorem State.mapPeers_events (f : Peer → Peer) : (s.mapPeers f).events = s.events := rfl
@[simp] theorem State.mapPeers_pending (f : Peer → Peer) : (s.mapPeers f).pending = s.pending := rfl

/-! ### raise -/

@[simp] theorem State.raise_straps (e : Event) : (s.raise e).straps = s.straps := rfl
@[simp] theorem State.raise_held (e : Event) : (s.raise e).held = s.held := rfl
@[simp] theorem State.raise_bus (e : Event) : (s.raise e).bus = s.bus := rfl
@[simp] theorem State.raise_stream (e : Event) : (s.raise e).stream = s.stream := rfl
@[simp] theorem State.raise_members (e : Event) : (s.raise e).members = s.members := rfl
@[simp] theorem State.raise_peers (e : Event) : (s.raise e).peers = s.peers := rfl
@[simp] theorem State.raise_raster (e : Event) : (s.raise e).raster = s.raster := rfl
@[simp] theorem State.raise_barrier (e : Event) : (s.raise e).barrier = s.barrier := rfl
@[simp] theorem State.raise_edge (e : Event) : (s.raise e).edge = s.edge := rfl
@[simp] theorem State.raise_scan (e : Event) : (s.raise e).scan = s.scan := rfl
@[simp] theorem State.raise_port (e : Event) : (s.raise e).port = s.port := rfl
@[simp] theorem State.raise_watch (e : Event) : (s.raise e).watch = s.watch := rfl
@[simp] theorem State.raise_events_flags (e : Event) : (s.raise e).events.flags = s.events.flags ||| e.bit := rfl
@[simp] theorem State.raise_events_mask (e : Event) : (s.raise e).events.mask = s.events.mask := rfl
@[simp] theorem State.raise_pending (e : Event) : (s.raise e).pending = s.pending := rfl

/-! ### setFraming -/

@[simp] theorem State.setFraming_straps (f : Framing) : (s.setFraming f).straps = s.straps := rfl
@[simp] theorem State.setFraming_held (f : Framing) : (s.setFraming f).held = s.held := rfl
@[simp] theorem State.setFraming_bus_framing (f : Framing) : (s.setFraming f).bus.framing = f := rfl
@[simp] theorem State.setFraming_bus_tx (f : Framing) : (s.setFraming f).bus.tx = s.bus.tx := rfl
@[simp] theorem State.setFraming_bus_aborts (f : Framing) : (s.setFraming f).bus.aborts = s.bus.aborts := rfl
@[simp] theorem State.setFraming_stream (f : Framing) : (s.setFraming f).stream = s.stream := rfl
@[simp] theorem State.setFraming_members (f : Framing) : (s.setFraming f).members = s.members := rfl
@[simp] theorem State.setFraming_peers (f : Framing) : (s.setFraming f).peers = s.peers := rfl
@[simp] theorem State.setFraming_raster (f : Framing) : (s.setFraming f).raster = s.raster := rfl
@[simp] theorem State.setFraming_barrier (f : Framing) : (s.setFraming f).barrier = s.barrier := rfl
@[simp] theorem State.setFraming_edge (f : Framing) : (s.setFraming f).edge = s.edge := rfl
@[simp] theorem State.setFraming_scan (f : Framing) : (s.setFraming f).scan = s.scan := rfl
@[simp] theorem State.setFraming_port (f : Framing) : (s.setFraming f).port = s.port := rfl
@[simp] theorem State.setFraming_watch (f : Framing) : (s.setFraming f).watch = s.watch := rfl
@[simp] theorem State.setFraming_events (f : Framing) : (s.setFraming f).events = s.events := rfl
@[simp] theorem State.setFraming_pending (f : Framing) : (s.setFraming f).pending = s.pending := rfl

/-! ### setTx -/

@[simp] theorem State.setTx_straps (t : Option Txn) : (s.setTx t).straps = s.straps := rfl
@[simp] theorem State.setTx_held (t : Option Txn) : (s.setTx t).held = s.held := rfl
@[simp] theorem State.setTx_bus_framing (t : Option Txn) : (s.setTx t).bus.framing = s.bus.framing := rfl
@[simp] theorem State.setTx_bus_tx (t : Option Txn) : (s.setTx t).bus.tx = t := rfl
@[simp] theorem State.setTx_bus_aborts (t : Option Txn) : (s.setTx t).bus.aborts = s.bus.aborts := rfl
@[simp] theorem State.setTx_stream (t : Option Txn) : (s.setTx t).stream = s.stream := rfl
@[simp] theorem State.setTx_members (t : Option Txn) : (s.setTx t).members = s.members := rfl
@[simp] theorem State.setTx_peers (t : Option Txn) : (s.setTx t).peers = s.peers := rfl
@[simp] theorem State.setTx_raster (t : Option Txn) : (s.setTx t).raster = s.raster := rfl
@[simp] theorem State.setTx_barrier (t : Option Txn) : (s.setTx t).barrier = s.barrier := rfl
@[simp] theorem State.setTx_edge (t : Option Txn) : (s.setTx t).edge = s.edge := rfl
@[simp] theorem State.setTx_scan (t : Option Txn) : (s.setTx t).scan = s.scan := rfl
@[simp] theorem State.setTx_port (t : Option Txn) : (s.setTx t).port = s.port := rfl
@[simp] theorem State.setTx_watch (t : Option Txn) : (s.setTx t).watch = s.watch := rfl
@[simp] theorem State.setTx_events (t : Option Txn) : (s.setTx t).events = s.events := rfl
@[simp] theorem State.setTx_pending (t : Option Txn) : (s.setTx t).pending = s.pending := rfl

/-! ### setShift -/

@[simp] theorem State.setShift_straps (x : Option Shift) : (s.setShift x).straps = s.straps := rfl
@[simp] theorem State.setShift_held (x : Option Shift) : (s.setShift x).held = s.held := rfl
@[simp] theorem State.setShift_bus (x : Option Shift) : (s.setShift x).bus = s.bus := rfl
@[simp] theorem State.setShift_stream (x : Option Shift) : (s.setShift x).stream = s.stream := rfl
@[simp] theorem State.setShift_members (x : Option Shift) : (s.setShift x).members = s.members := rfl
@[simp] theorem State.setShift_peers (x : Option Shift) : (s.setShift x).peers = s.peers := rfl
@[simp] theorem State.setShift_raster (x : Option Shift) : (s.setShift x).raster = s.raster := rfl
@[simp] theorem State.setShift_barrier (x : Option Shift) : (s.setShift x).barrier = s.barrier := rfl
@[simp] theorem State.setShift_edge_shift (x : Option Shift) : (s.setShift x).edge.shift = x := rfl
@[simp] theorem State.setShift_edge_outbox (x : Option Shift) : (s.setShift x).edge.outbox = s.edge.outbox := rfl
@[simp] theorem State.setShift_edge_inbox (x : Option Shift) : (s.setShift x).edge.inbox = s.edge.inbox := rfl
@[simp] theorem State.setShift_edge_timer (x : Option Shift) : (s.setShift x).edge.timer = s.edge.timer := rfl
@[simp] theorem State.setShift_scan (x : Option Shift) : (s.setShift x).scan = s.scan := rfl
@[simp] theorem State.setShift_port (x : Option Shift) : (s.setShift x).port = s.port := rfl
@[simp] theorem State.setShift_watch (x : Option Shift) : (s.setShift x).watch = s.watch := rfl
@[simp] theorem State.setShift_events (x : Option Shift) : (s.setShift x).events = s.events := rfl
@[simp] theorem State.setShift_pending (x : Option Shift) : (s.setShift x).pending = s.pending := rfl

/-! ### setOutbox -/

@[simp] theorem State.setOutbox_straps (l : List OutboxRecord) : (s.setOutbox l).straps = s.straps := rfl
@[simp] theorem State.setOutbox_held (l : List OutboxRecord) : (s.setOutbox l).held = s.held := rfl
@[simp] theorem State.setOutbox_bus (l : List OutboxRecord) : (s.setOutbox l).bus = s.bus := rfl
@[simp] theorem State.setOutbox_stream (l : List OutboxRecord) : (s.setOutbox l).stream = s.stream := rfl
@[simp] theorem State.setOutbox_members (l : List OutboxRecord) : (s.setOutbox l).members = s.members := rfl
@[simp] theorem State.setOutbox_peers (l : List OutboxRecord) : (s.setOutbox l).peers = s.peers := rfl
@[simp] theorem State.setOutbox_raster (l : List OutboxRecord) : (s.setOutbox l).raster = s.raster := rfl
@[simp] theorem State.setOutbox_barrier (l : List OutboxRecord) : (s.setOutbox l).barrier = s.barrier := rfl
@[simp] theorem State.setOutbox_edge_shift (l : List OutboxRecord) : (s.setOutbox l).edge.shift = s.edge.shift := rfl
@[simp] theorem State.setOutbox_edge_outbox (l : List OutboxRecord) : (s.setOutbox l).edge.outbox = l := rfl
@[simp] theorem State.setOutbox_edge_inbox (l : List OutboxRecord) : (s.setOutbox l).edge.inbox = s.edge.inbox := rfl
@[simp] theorem State.setOutbox_edge_timer (l : List OutboxRecord) : (s.setOutbox l).edge.timer = s.edge.timer := rfl
@[simp] theorem State.setOutbox_scan (l : List OutboxRecord) : (s.setOutbox l).scan = s.scan := rfl
@[simp] theorem State.setOutbox_port (l : List OutboxRecord) : (s.setOutbox l).port = s.port := rfl
@[simp] theorem State.setOutbox_watch (l : List OutboxRecord) : (s.setOutbox l).watch = s.watch := rfl
@[simp] theorem State.setOutbox_events (l : List OutboxRecord) : (s.setOutbox l).events = s.events := rfl
@[simp] theorem State.setOutbox_pending (l : List OutboxRecord) : (s.setOutbox l).pending = s.pending := rfl

/-! ### setInbox -/

@[simp] theorem State.setInbox_straps (l : List InboxEntry) : (s.setInbox l).straps = s.straps := rfl
@[simp] theorem State.setInbox_held (l : List InboxEntry) : (s.setInbox l).held = s.held := rfl
@[simp] theorem State.setInbox_bus (l : List InboxEntry) : (s.setInbox l).bus = s.bus := rfl
@[simp] theorem State.setInbox_stream (l : List InboxEntry) : (s.setInbox l).stream = s.stream := rfl
@[simp] theorem State.setInbox_members (l : List InboxEntry) : (s.setInbox l).members = s.members := rfl
@[simp] theorem State.setInbox_peers (l : List InboxEntry) : (s.setInbox l).peers = s.peers := rfl
@[simp] theorem State.setInbox_raster (l : List InboxEntry) : (s.setInbox l).raster = s.raster := rfl
@[simp] theorem State.setInbox_barrier (l : List InboxEntry) : (s.setInbox l).barrier = s.barrier := rfl
@[simp] theorem State.setInbox_edge_shift (l : List InboxEntry) : (s.setInbox l).edge.shift = s.edge.shift := rfl
@[simp] theorem State.setInbox_edge_outbox (l : List InboxEntry) : (s.setInbox l).edge.outbox = s.edge.outbox := rfl
@[simp] theorem State.setInbox_edge_inbox (l : List InboxEntry) : (s.setInbox l).edge.inbox = l := rfl
@[simp] theorem State.setInbox_edge_timer (l : List InboxEntry) : (s.setInbox l).edge.timer = s.edge.timer := rfl
@[simp] theorem State.setInbox_scan (l : List InboxEntry) : (s.setInbox l).scan = s.scan := rfl
@[simp] theorem State.setInbox_port (l : List InboxEntry) : (s.setInbox l).port = s.port := rfl
@[simp] theorem State.setInbox_watch (l : List InboxEntry) : (s.setInbox l).watch = s.watch := rfl
@[simp] theorem State.setInbox_events (l : List InboxEntry) : (s.setInbox l).events = s.events := rfl
@[simp] theorem State.setInbox_pending (l : List InboxEntry) : (s.setInbox l).pending = s.pending := rfl

/-! ### setEngine -/

@[simp] theorem State.setEngine_straps (e : EngineState) (i : Nat) : (s.setEngine e i).straps = s.straps := rfl
@[simp] theorem State.setEngine_held (e : EngineState) (i : Nat) : (s.setEngine e i).held = s.held := rfl
@[simp] theorem State.setEngine_bus (e : EngineState) (i : Nat) : (s.setEngine e i).bus = s.bus := rfl
@[simp] theorem State.setEngine_stream (e : EngineState) (i : Nat) : (s.setEngine e i).stream = s.stream := rfl
@[simp] theorem State.setEngine_members (e : EngineState) (i : Nat) : (s.setEngine e i).members = s.members := rfl
@[simp] theorem State.setEngine_peers (e : EngineState) (i : Nat) : (s.setEngine e i).peers = s.peers := rfl
@[simp] theorem State.setEngine_raster_planeA (e : EngineState) (i : Nat) : (s.setEngine e i).raster.planeA = s.raster.planeA := rfl
@[simp] theorem State.setEngine_raster_planeB (e : EngineState) (i : Nat) : (s.setEngine e i).raster.planeB = s.raster.planeB := rfl
@[simp] theorem State.setEngine_raster_engine (e : EngineState) (i : Nat) : (s.setEngine e i).raster.engine = e := rfl
@[simp] theorem State.setEngine_raster_issued (e : EngineState) (i : Nat) : (s.setEngine e i).raster.issued = i := rfl
@[simp] theorem State.setEngine_raster_digest (e : EngineState) (i : Nat) : (s.setEngine e i).raster.digest = s.raster.digest := rfl
@[simp] theorem State.setEngine_raster_history (e : EngineState) (i : Nat) : (s.setEngine e i).raster.history = s.raster.history := rfl
@[simp] theorem State.setEngine_raster_mark (e : EngineState) (i : Nat) : (s.setEngine e i).raster.mark = s.raster.mark := rfl
@[simp] theorem State.setEngine_barrier (e : EngineState) (i : Nat) : (s.setEngine e i).barrier = s.barrier := rfl
@[simp] theorem State.setEngine_edge (e : EngineState) (i : Nat) : (s.setEngine e i).edge = s.edge := rfl
@[simp] theorem State.setEngine_scan (e : EngineState) (i : Nat) : (s.setEngine e i).scan = s.scan := rfl
@[simp] theorem State.setEngine_port (e : EngineState) (i : Nat) : (s.setEngine e i).port = s.port := rfl
@[simp] theorem State.setEngine_watch (e : EngineState) (i : Nat) : (s.setEngine e i).watch = s.watch := rfl
@[simp] theorem State.setEngine_events (e : EngineState) (i : Nat) : (s.setEngine e i).events = s.events := rfl
@[simp] theorem State.setEngine_pending (e : EngineState) (i : Nat) : (s.setEngine e i).pending = s.pending := rfl

/-! ### setStation -/

@[simp] theorem State.setStation_straps (st : StationState) (l b : Option Nat) (h : Option HelloKind) : (s.setStation st l b h).straps = s.straps := rfl
@[simp] theorem State.setStation_held (st : StationState) (l b : Option Nat) (h : Option HelloKind) : (s.setStation st l b h).held = s.held := rfl
@[simp] theorem State.setStation_bus (st : StationState) (l b : Option Nat) (h : Option HelloKind) : (s.setStation st l b h).bus = s.bus := rfl
@[simp] theorem State.setStation_stream (st : StationState) (l b : Option Nat) (h : Option HelloKind) : (s.setStation st l b h).stream = s.stream := rfl
@[simp] theorem State.setStation_members_station (st : StationState) (l b : Option Nat) (h : Option HelloKind) : (s.setStation st l b h).members.station = st := rfl
@[simp] theorem State.setStation_members_listenTimer (st : StationState) (l b : Option Nat) (h : Option HelloKind) : (s.setStation st l b h).members.listenTimer = l := rfl
@[simp] theorem State.setStation_members_beaconTimer (st : StationState) (l b : Option Nat) (h : Option HelloKind) : (s.setStation st l b h).members.beaconTimer = b := rfl
@[simp] theorem State.setStation_members_hello (st : StationState) (l b : Option Nat) (h : Option HelloKind) : (s.setStation st l b h).members.hello = h := rfl
@[simp] theorem State.setStation_members_divergence (st : StationState) (l b : Option Nat) (h : Option HelloKind) : (s.setStation st l b h).members.divergence = s.members.divergence := rfl
@[simp] theorem State.setStation_peers (st : StationState) (l b : Option Nat) (h : Option HelloKind) : (s.setStation st l b h).peers = s.peers := rfl
@[simp] theorem State.setStation_raster (st : StationState) (l b : Option Nat) (h : Option HelloKind) : (s.setStation st l b h).raster = s.raster := rfl
@[simp] theorem State.setStation_barrier (st : StationState) (l b : Option Nat) (h : Option HelloKind) : (s.setStation st l b h).barrier = s.barrier := rfl
@[simp] theorem State.setStation_edge (st : StationState) (l b : Option Nat) (h : Option HelloKind) : (s.setStation st l b h).edge = s.edge := rfl
@[simp] theorem State.setStation_scan (st : StationState) (l b : Option Nat) (h : Option HelloKind) : (s.setStation st l b h).scan = s.scan := rfl
@[simp] theorem State.setStation_port (st : StationState) (l b : Option Nat) (h : Option HelloKind) : (s.setStation st l b h).port = s.port := rfl
@[simp] theorem State.setStation_watch (st : StationState) (l b : Option Nat) (h : Option HelloKind) : (s.setStation st l b h).watch = s.watch := rfl
@[simp] theorem State.setStation_events (st : StationState) (l b : Option Nat) (h : Option HelloKind) : (s.setStation st l b h).events = s.events := rfl
@[simp] theorem State.setStation_pending (st : StationState) (l b : Option Nat) (h : Option HelloKind) : (s.setStation st l b h).pending = s.pending := rfl

/-! ### setPort -/

@[simp] theorem State.setPort_straps (p : PortPhase) (o : List Byte) : (s.setPort p o).straps = s.straps := rfl
@[simp] theorem State.setPort_held (p : PortPhase) (o : List Byte) : (s.setPort p o).held = s.held := rfl
@[simp] theorem State.setPort_bus (p : PortPhase) (o : List Byte) : (s.setPort p o).bus = s.bus := rfl
@[simp] theorem State.setPort_stream (p : PortPhase) (o : List Byte) : (s.setPort p o).stream = s.stream := rfl
@[simp] theorem State.setPort_members (p : PortPhase) (o : List Byte) : (s.setPort p o).members = s.members := rfl
@[simp] theorem State.setPort_peers (p : PortPhase) (o : List Byte) : (s.setPort p o).peers = s.peers := rfl
@[simp] theorem State.setPort_raster (p : PortPhase) (o : List Byte) : (s.setPort p o).raster = s.raster := rfl
@[simp] theorem State.setPort_barrier (p : PortPhase) (o : List Byte) : (s.setPort p o).barrier = s.barrier := rfl
@[simp] theorem State.setPort_edge (p : PortPhase) (o : List Byte) : (s.setPort p o).edge = s.edge := rfl
@[simp] theorem State.setPort_scan (p : PortPhase) (o : List Byte) : (s.setPort p o).scan = s.scan := rfl
@[simp] theorem State.setPort_port_phase (p : PortPhase) (o : List Byte) : (s.setPort p o).port.phase = p := rfl
@[simp] theorem State.setPort_port_out (p : PortPhase) (o : List Byte) : (s.setPort p o).port.out = o := rfl
@[simp] theorem State.setPort_port_overlay (p : PortPhase) (o : List Byte) : (s.setPort p o).port.overlay = s.port.overlay := rfl
@[simp] theorem State.setPort_port_cursor (p : PortPhase) (o : List Byte) : (s.setPort p o).port.cursor = s.port.cursor := rfl
@[simp] theorem State.setPort_port_mark (p : PortPhase) (o : List Byte) : (s.setPort p o).port.mark = s.port.mark := rfl
@[simp] theorem State.setPort_port_display (p : PortPhase) (o : List Byte) : (s.setPort p o).port.display = s.port.display := rfl
@[simp] theorem State.setPort_watch (p : PortPhase) (o : List Byte) : (s.setPort p o).watch = s.watch := rfl
@[simp] theorem State.setPort_events (p : PortPhase) (o : List Byte) : (s.setPort p o).events = s.events := rfl
@[simp] theorem State.setPort_pending (p : PortPhase) (o : List Byte) : (s.setPort p o).pending = s.pending := rfl

/-! ### setCursor -/

@[simp] theorem State.setCursor_straps (c : Cursor) : (s.setCursor c).straps = s.straps := rfl
@[simp] theorem State.setCursor_held (c : Cursor) : (s.setCursor c).held = s.held := rfl
@[simp] theorem State.setCursor_bus (c : Cursor) : (s.setCursor c).bus = s.bus := rfl
@[simp] theorem State.setCursor_stream (c : Cursor) : (s.setCursor c).stream = s.stream := rfl
@[simp] theorem State.setCursor_members (c : Cursor) : (s.setCursor c).members = s.members := rfl
@[simp] theorem State.setCursor_peers (c : Cursor) : (s.setCursor c).peers = s.peers := rfl
@[simp] theorem State.setCursor_raster (c : Cursor) : (s.setCursor c).raster = s.raster := rfl
@[simp] theorem State.setCursor_barrier (c : Cursor) : (s.setCursor c).barrier = s.barrier := rfl
@[simp] theorem State.setCursor_edge (c : Cursor) : (s.setCursor c).edge = s.edge := rfl
@[simp] theorem State.setCursor_scan (c : Cursor) : (s.setCursor c).scan = s.scan := rfl
@[simp] theorem State.setCursor_port_phase (c : Cursor) : (s.setCursor c).port.phase = s.port.phase := rfl
@[simp] theorem State.setCursor_port_out (c : Cursor) : (s.setCursor c).port.out = s.port.out := rfl
@[simp] theorem State.setCursor_port_overlay (c : Cursor) : (s.setCursor c).port.overlay = s.port.overlay := rfl
@[simp] theorem State.setCursor_port_cursor (c : Cursor) : (s.setCursor c).port.cursor = c := rfl
@[simp] theorem State.setCursor_port_mark (c : Cursor) : (s.setCursor c).port.mark = s.port.mark := rfl
@[simp] theorem State.setCursor_port_display (c : Cursor) : (s.setCursor c).port.display = s.port.display := rfl
@[simp] theorem State.setCursor_watch (c : Cursor) : (s.setCursor c).watch = s.watch := rfl
@[simp] theorem State.setCursor_events (c : Cursor) : (s.setCursor c).events = s.events := rfl
@[simp] theorem State.setCursor_pending (c : Cursor) : (s.setCursor c).pending = s.pending := rfl

/-! ### setExpected -/

@[simp] theorem State.setExpected_straps (n : Station) (e : Byte) : (s.setExpected n e).straps = s.straps := rfl
@[simp] theorem State.setExpected_held (n : Station) (e : Byte) : (s.setExpected n e).held = s.held := rfl
@[simp] theorem State.setExpected_bus (n : Station) (e : Byte) : (s.setExpected n e).bus = s.bus := rfl
@[simp] theorem State.setExpected_stream (n : Station) (e : Byte) : (s.setExpected n e).stream = s.stream := rfl
@[simp] theorem State.setExpected_members (n : Station) (e : Byte) : (s.setExpected n e).members = s.members := rfl
@[simp] theorem State.setExpected_raster (n : Station) (e : Byte) : (s.setExpected n e).raster = s.raster := rfl
@[simp] theorem State.setExpected_barrier (n : Station) (e : Byte) : (s.setExpected n e).barrier = s.barrier := rfl
@[simp] theorem State.setExpected_edge (n : Station) (e : Byte) : (s.setExpected n e).edge = s.edge := rfl
@[simp] theorem State.setExpected_scan (n : Station) (e : Byte) : (s.setExpected n e).scan = s.scan := rfl
@[simp] theorem State.setExpected_port (n : Station) (e : Byte) : (s.setExpected n e).port = s.port := rfl
@[simp] theorem State.setExpected_watch (n : Station) (e : Byte) : (s.setExpected n e).watch = s.watch := rfl
@[simp] theorem State.setExpected_events (n : Station) (e : Byte) : (s.setExpected n e).events = s.events := rfl
@[simp] theorem State.setExpected_pending (n : Station) (e : Byte) : (s.setExpected n e).pending = s.pending := rfl

/-! ### restartSilence -/

@[simp] theorem State.restartSilence_straps (n : Station) : (s.restartSilence n).straps = s.straps := rfl
@[simp] theorem State.restartSilence_held (n : Station) : (s.restartSilence n).held = s.held := rfl
@[simp] theorem State.restartSilence_bus (n : Station) : (s.restartSilence n).bus = s.bus := rfl
@[simp] theorem State.restartSilence_stream (n : Station) : (s.restartSilence n).stream = s.stream := rfl
@[simp] theorem State.restartSilence_members (n : Station) : (s.restartSilence n).members = s.members := rfl
@[simp] theorem State.restartSilence_raster (n : Station) : (s.restartSilence n).raster = s.raster := rfl
@[simp] theorem State.restartSilence_barrier (n : Station) : (s.restartSilence n).barrier = s.barrier := rfl
@[simp] theorem State.restartSilence_edge (n : Station) : (s.restartSilence n).edge = s.edge := rfl
@[simp] theorem State.restartSilence_scan (n : Station) : (s.restartSilence n).scan = s.scan := rfl
@[simp] theorem State.restartSilence_port (n : Station) : (s.restartSilence n).port = s.port := rfl
@[simp] theorem State.restartSilence_watch (n : Station) : (s.restartSilence n).watch = s.watch := rfl
@[simp] theorem State.restartSilence_events (n : Station) : (s.restartSilence n).events = s.events := rfl
@[simp] theorem State.restartSilence_pending (n : Station) : (s.restartSilence n).pending = s.pending := rfl

/-! ### startRow -/

@[simp] theorem State.startRow_straps (r late : Nat) : (s.startRow r late).straps = s.straps := rfl
@[simp] theorem State.startRow_held (r late : Nat) : (s.startRow r late).held = s.held := rfl
@[simp] theorem State.startRow_bus (r late : Nat) : (s.startRow r late).bus = s.bus := rfl
@[simp] theorem State.startRow_stream (r late : Nat) : (s.startRow r late).stream = s.stream := rfl
@[simp] theorem State.startRow_members (r late : Nat) : (s.startRow r late).members = s.members := rfl
@[simp] theorem State.startRow_peers (r late : Nat) : (s.startRow r late).peers = s.peers := rfl
@[simp] theorem State.startRow_raster (r late : Nat) : (s.startRow r late).raster = s.raster := rfl
@[simp] theorem State.startRow_barrier (r late : Nat) : (s.startRow r late).barrier = s.barrier := rfl
@[simp] theorem State.startRow_edge (r late : Nat) : (s.startRow r late).edge = s.edge := rfl
@[simp] theorem State.startRow_scan_row (r late : Nat) : (s.startRow r late).scan.row = r := rfl
@[simp] theorem State.startRow_scan_timer (r late : Nat) : (s.startRow r late).scan.timer = some late := rfl
@[simp] theorem State.startRow_scan_out (r late : Nat) : (s.startRow r late).scan.out = s.formRow r := rfl
@[simp] theorem State.startRow_port (r late : Nat) : (s.startRow r late).port = s.port := rfl
@[simp] theorem State.startRow_watch (r late : Nat) : (s.startRow r late).watch = s.watch := rfl
@[simp] theorem State.startRow_events (r late : Nat) : (s.startRow r late).events = s.events := rfl
@[simp] theorem State.startRow_pending (r late : Nat) : (s.startRow r late).pending = s.pending := rfl

/-! ### startFrame -/

@[simp] theorem State.startFrame_straps (late : Nat) : (s.startFrame late).straps = s.straps := rfl
@[simp] theorem State.startFrame_held (late : Nat) : (s.startFrame late).held = s.held := rfl
@[simp] theorem State.startFrame_bus (late : Nat) : (s.startFrame late).bus = s.bus := rfl
@[simp] theorem State.startFrame_stream (late : Nat) : (s.startFrame late).stream = s.stream := rfl
@[simp] theorem State.startFrame_members (late : Nat) : (s.startFrame late).members = s.members := rfl
@[simp] theorem State.startFrame_peers (late : Nat) : (s.startFrame late).peers = s.peers := rfl
@[simp] theorem State.startFrame_raster (late : Nat) : (s.startFrame late).raster = s.raster := rfl
@[simp] theorem State.startFrame_barrier (late : Nat) : (s.startFrame late).barrier = s.barrier := rfl
@[simp] theorem State.startFrame_edge (late : Nat) : (s.startFrame late).edge = s.edge := rfl
@[simp] theorem State.startFrame_scan_row (late : Nat) : (s.startFrame late).scan.row = 0 := rfl
@[simp] theorem State.startFrame_scan_timer (late : Nat) : (s.startFrame late).scan.timer = some late := rfl
@[simp] theorem State.startFrame_scan_out (late : Nat) : (s.startFrame late).scan.out = s.formRow 0 := rfl
@[simp] theorem State.startFrame_port (late : Nat) : (s.startFrame late).port = s.port := rfl
@[simp] theorem State.startFrame_watch (late : Nat) : (s.startFrame late).watch = s.watch := rfl
@[simp] theorem State.startFrame_events_flags (late : Nat) : (s.startFrame late).events.flags = s.events.flags ||| Event.frame.bit := rfl
@[simp] theorem State.startFrame_events_mask (late : Nat) : (s.startFrame late).events.mask = s.events.mask := rfl
@[simp] theorem State.startFrame_pending (late : Nat) : (s.startFrame late).pending = s.pending := rfl

/-! ### countWrite -/

@[simp] theorem State.countWrite_straps : (s.countWrite).straps = s.straps := rfl
@[simp] theorem State.countWrite_held : (s.countWrite).held = s.held := rfl
@[simp] theorem State.countWrite_bus : (s.countWrite).bus = s.bus := rfl
@[simp] theorem State.countWrite_stream : (s.countWrite).stream = s.stream := rfl
@[simp] theorem State.countWrite_members : (s.countWrite).members = s.members := rfl
@[simp] theorem State.countWrite_peers : (s.countWrite).peers = s.peers := rfl
@[simp] theorem State.countWrite_raster_planeA : (s.countWrite).raster.planeA = s.raster.planeA := rfl
@[simp] theorem State.countWrite_raster_planeB : (s.countWrite).raster.planeB = s.raster.planeB := rfl
@[simp] theorem State.countWrite_raster_engine : (s.countWrite).raster.engine = s.raster.engine := rfl
@[simp] theorem State.countWrite_raster_issued : (s.countWrite).raster.issued = s.raster.issued + 1 := rfl
@[simp] theorem State.countWrite_raster_digest : (s.countWrite).raster.digest = s.raster.digest := rfl
@[simp] theorem State.countWrite_raster_history : (s.countWrite).raster.history = s.raster.history := rfl
@[simp] theorem State.countWrite_raster_mark : (s.countWrite).raster.mark = s.raster.mark := rfl
@[simp] theorem State.countWrite_barrier : (s.countWrite).barrier = s.barrier := rfl
@[simp] theorem State.countWrite_edge : (s.countWrite).edge = s.edge := rfl
@[simp] theorem State.countWrite_scan : (s.countWrite).scan = s.scan := rfl
@[simp] theorem State.countWrite_port : (s.countWrite).port = s.port := rfl
@[simp] theorem State.countWrite_watch : (s.countWrite).watch = s.watch := rfl
@[simp] theorem State.countWrite_events : (s.countWrite).events = s.events := rfl
@[simp] theorem State.countWrite_pending : (s.countWrite).pending = s.pending := rfl

/-! ### enqueue -/

@[simp] theorem State.enqueue_straps (l : List Instr) : (s.enqueue l).straps = s.straps := rfl
@[simp] theorem State.enqueue_held (l : List Instr) : (s.enqueue l).held = s.held := rfl
@[simp] theorem State.enqueue_bus (l : List Instr) : (s.enqueue l).bus = s.bus := rfl
@[simp] theorem State.enqueue_stream (l : List Instr) : (s.enqueue l).stream = s.stream := rfl
@[simp] theorem State.enqueue_members (l : List Instr) : (s.enqueue l).members = s.members := rfl
@[simp] theorem State.enqueue_peers (l : List Instr) : (s.enqueue l).peers = s.peers := rfl
@[simp] theorem State.enqueue_raster (l : List Instr) : (s.enqueue l).raster = s.raster := rfl
@[simp] theorem State.enqueue_barrier (l : List Instr) : (s.enqueue l).barrier = s.barrier := rfl
@[simp] theorem State.enqueue_edge (l : List Instr) : (s.enqueue l).edge = s.edge := rfl
@[simp] theorem State.enqueue_scan (l : List Instr) : (s.enqueue l).scan = s.scan := rfl
@[simp] theorem State.enqueue_port (l : List Instr) : (s.enqueue l).port = s.port := rfl
@[simp] theorem State.enqueue_watch (l : List Instr) : (s.enqueue l).watch = s.watch := rfl
@[simp] theorem State.enqueue_events (l : List Instr) : (s.enqueue l).events = s.events := rfl
@[simp] theorem State.enqueue_pending (l : List Instr) : (s.enqueue l).pending = s.pending ++ l := rfl

/-! ### holdVote -/

@[simp] theorem State.holdVote_straps (n : Station) (t : Epoch) : (s.holdVote n t).straps = s.straps := rfl
@[simp] theorem State.holdVote_held (n : Station) (t : Epoch) : (s.holdVote n t).held = s.held := rfl
@[simp] theorem State.holdVote_bus (n : Station) (t : Epoch) : (s.holdVote n t).bus = s.bus := rfl
@[simp] theorem State.holdVote_stream (n : Station) (t : Epoch) : (s.holdVote n t).stream = s.stream := rfl
@[simp] theorem State.holdVote_members (n : Station) (t : Epoch) : (s.holdVote n t).members = s.members := rfl
@[simp] theorem State.holdVote_peers (n : Station) (t : Epoch) : (s.holdVote n t).peers = s.peers := rfl
@[simp] theorem State.holdVote_raster (n : Station) (t : Epoch) : (s.holdVote n t).raster = s.raster := rfl
@[simp] theorem State.holdVote_barrier_shown (n : Station) (t : Epoch) : (s.holdVote n t).barrier.shown = s.barrier.shown := rfl
@[simp] theorem State.holdVote_barrier_committed (n : Station) (t : Epoch) : (s.holdVote n t).barrier.committed = s.barrier.committed := rfl
@[simp] theorem State.holdVote_barrier_voted (n : Station) (t : Epoch) : (s.holdVote n t).barrier.voted = s.barrier.voted := rfl
@[simp] theorem State.holdVote_barrier_slot (n : Station) (t : Epoch) : (s.holdVote n t).barrier.slot = s.barrier.slot := rfl
@[simp] theorem State.holdVote_barrier_pending (n : Station) (t : Epoch) : (s.holdVote n t).barrier.pending = s.barrier.pending := rfl
@[simp] theorem State.holdVote_barrier_timer (n : Station) (t : Epoch) : (s.holdVote n t).barrier.timer = s.barrier.timer := rfl
@[simp] theorem State.holdVote_barrier_late (n : Station) (t : Epoch) : (s.holdVote n t).barrier.late = s.barrier.late := rfl
@[simp] theorem State.holdVote_barrier_pendingVote (n : Station) (t : Epoch) : (s.holdVote n t).barrier.pendingVote = some (n, t) := rfl
@[simp] theorem State.holdVote_edge (n : Station) (t : Epoch) : (s.holdVote n t).edge = s.edge := rfl
@[simp] theorem State.holdVote_scan (n : Station) (t : Epoch) : (s.holdVote n t).scan = s.scan := rfl
@[simp] theorem State.holdVote_port (n : Station) (t : Epoch) : (s.holdVote n t).port = s.port := rfl
@[simp] theorem State.holdVote_watch (n : Station) (t : Epoch) : (s.holdVote n t).watch = s.watch := rfl
@[simp] theorem State.holdVote_events (n : Station) (t : Epoch) : (s.holdVote n t).events = s.events := rfl
@[simp] theorem State.holdVote_pending (n : Station) (t : Epoch) : (s.holdVote n t).pending = s.pending := rfl

/-! ### decideAck -/

@[simp] theorem State.decideAck_straps : (s.decideAck).straps = s.straps := rfl
@[simp] theorem State.decideAck_held : (s.decideAck).held = s.held := rfl
@[simp] theorem State.decideAck_bus_framing : (s.decideAck).bus.framing = { s.bus.framing with ackDue := true } := rfl
@[simp] theorem State.decideAck_bus_tx : (s.decideAck).bus.tx = s.bus.tx := rfl
@[simp] theorem State.decideAck_bus_aborts : (s.decideAck).bus.aborts = s.bus.aborts := rfl
@[simp] theorem State.decideAck_stream : (s.decideAck).stream = s.stream := rfl
@[simp] theorem State.decideAck_members : (s.decideAck).members = s.members := rfl
@[simp] theorem State.decideAck_peers : (s.decideAck).peers = s.peers := rfl
@[simp] theorem State.decideAck_raster : (s.decideAck).raster = s.raster := rfl
@[simp] theorem State.decideAck_barrier : (s.decideAck).barrier = s.barrier := rfl
@[simp] theorem State.decideAck_edge : (s.decideAck).edge = s.edge := rfl
@[simp] theorem State.decideAck_scan : (s.decideAck).scan = s.scan := rfl
@[simp] theorem State.decideAck_port : (s.decideAck).port = s.port := rfl
@[simp] theorem State.decideAck_watch : (s.decideAck).watch = s.watch := rfl
@[simp] theorem State.decideAck_events : (s.decideAck).events = s.events := rfl
@[simp] theorem State.decideAck_pending : (s.decideAck).pending = s.pending := rfl

/-! ### setEpoch -/

@[simp] theorem State.setEpoch_straps (e : Epoch) : (s.setEpoch e).straps = s.straps := rfl
@[simp] theorem State.setEpoch_held (e : Epoch) : (s.setEpoch e).held = s.held := rfl
@[simp] theorem State.setEpoch_bus (e : Epoch) : (s.setEpoch e).bus = s.bus := rfl
@[simp] theorem State.setEpoch_stream_outbound (e : Epoch) : (s.setEpoch e).stream.outbound = s.stream.outbound := rfl
@[simp] theorem State.setEpoch_stream_inbound (e : Epoch) : (s.setEpoch e).stream.inbound = s.stream.inbound := rfl
@[simp] theorem State.setEpoch_stream_counter (e : Epoch) : (s.setEpoch e).stream.counter = s.stream.counter := rfl
@[simp] theorem State.setEpoch_stream_epoch (e : Epoch) : (s.setEpoch e).stream.epoch = e := rfl
@[simp] theorem State.setEpoch_stream_lastPost (e : Epoch) : (s.setEpoch e).stream.lastPost = s.stream.lastPost := rfl
@[simp] theorem State.setEpoch_members (e : Epoch) : (s.setEpoch e).members = s.members := rfl
@[simp] theorem State.setEpoch_peers (e : Epoch) : (s.setEpoch e).peers = s.peers := rfl
@[simp] theorem State.setEpoch_raster (e : Epoch) : (s.setEpoch e).raster = s.raster := rfl
@[simp] theorem State.setEpoch_barrier (e : Epoch) : (s.setEpoch e).barrier = s.barrier := rfl
@[simp] theorem State.setEpoch_edge (e : Epoch) : (s.setEpoch e).edge = s.edge := rfl
@[simp] theorem State.setEpoch_scan (e : Epoch) : (s.setEpoch e).scan = s.scan := rfl
@[simp] theorem State.setEpoch_port (e : Epoch) : (s.setEpoch e).port = s.port := rfl
@[simp] theorem State.setEpoch_watch (e : Epoch) : (s.setEpoch e).watch = s.watch := rfl
@[simp] theorem State.setEpoch_events (e : Epoch) : (s.setEpoch e).events = s.events := rfl
@[simp] theorem State.setEpoch_pending (e : Epoch) : (s.setEpoch e).pending = s.pending := rfl

/-! ### recordDigest -/

@[simp] theorem State.recordDigest_straps (t : Epoch) : (s.recordDigest t).straps = s.straps := rfl
@[simp] theorem State.recordDigest_held (t : Epoch) : (s.recordDigest t).held = s.held := rfl
@[simp] theorem State.recordDigest_bus (t : Epoch) : (s.recordDigest t).bus = s.bus := rfl
@[simp] theorem State.recordDigest_stream (t : Epoch) : (s.recordDigest t).stream = s.stream := rfl
@[simp] theorem State.recordDigest_members (t : Epoch) : (s.recordDigest t).members = s.members := rfl
@[simp] theorem State.recordDigest_peers (t : Epoch) : (s.recordDigest t).peers = s.peers := rfl
@[simp] theorem State.recordDigest_raster_planeA (t : Epoch) : (s.recordDigest t).raster.planeA = s.raster.planeA := rfl
@[simp] theorem State.recordDigest_raster_planeB (t : Epoch) : (s.recordDigest t).raster.planeB = s.raster.planeB := rfl
@[simp] theorem State.recordDigest_raster_engine (t : Epoch) : (s.recordDigest t).raster.engine = s.raster.engine := rfl
@[simp] theorem State.recordDigest_raster_issued (t : Epoch) : (s.recordDigest t).raster.issued = s.raster.issued := rfl
@[simp] theorem State.recordDigest_raster_digest (t : Epoch) : (s.recordDigest t).raster.digest = 0 := rfl
@[simp] theorem State.recordDigest_raster_mark (t : Epoch) : (s.recordDigest t).raster.mark = .wholePicture := rfl
@[simp] theorem State.recordDigest_barrier (t : Epoch) : (s.recordDigest t).barrier = s.barrier := rfl
@[simp] theorem State.recordDigest_edge (t : Epoch) : (s.recordDigest t).edge = s.edge := rfl
@[simp] theorem State.recordDigest_scan (t : Epoch) : (s.recordDigest t).scan = s.scan := rfl
@[simp] theorem State.recordDigest_port (t : Epoch) : (s.recordDigest t).port = s.port := rfl
@[simp] theorem State.recordDigest_watch (t : Epoch) : (s.recordDigest t).watch = s.watch := rfl
@[simp] theorem State.recordDigest_events (t : Epoch) : (s.recordDigest t).events = s.events := rfl
@[simp] theorem State.recordDigest_pending (t : Epoch) : (s.recordDigest t).pending = s.pending := rfl

/-! ### raiseIf -/

@[simp] theorem State.raiseIf_straps (c : Bool) (e : Event) : (s.raiseIf c e).straps = s.straps := by
  cases c <;> rfl
@[simp] theorem State.raiseIf_held (c : Bool) (e : Event) : (s.raiseIf c e).held = s.held := by
  cases c <;> rfl
@[simp] theorem State.raiseIf_bus (c : Bool) (e : Event) : (s.raiseIf c e).bus = s.bus := by
  cases c <;> rfl
@[simp] theorem State.raiseIf_stream (c : Bool) (e : Event) : (s.raiseIf c e).stream = s.stream := by
  cases c <;> rfl
@[simp] theorem State.raiseIf_members (c : Bool) (e : Event) : (s.raiseIf c e).members = s.members := by
  cases c <;> rfl
@[simp] theorem State.raiseIf_peers (c : Bool) (e : Event) : (s.raiseIf c e).peers = s.peers := by
  cases c <;> rfl
@[simp] theorem State.raiseIf_raster (c : Bool) (e : Event) : (s.raiseIf c e).raster = s.raster := by
  cases c <;> rfl
@[simp] theorem State.raiseIf_barrier (c : Bool) (e : Event) : (s.raiseIf c e).barrier = s.barrier := by
  cases c <;> rfl
@[simp] theorem State.raiseIf_edge (c : Bool) (e : Event) : (s.raiseIf c e).edge = s.edge := by
  cases c <;> rfl
@[simp] theorem State.raiseIf_scan (c : Bool) (e : Event) : (s.raiseIf c e).scan = s.scan := by
  cases c <;> rfl
@[simp] theorem State.raiseIf_port (c : Bool) (e : Event) : (s.raiseIf c e).port = s.port := by
  cases c <;> rfl
@[simp] theorem State.raiseIf_watch (c : Bool) (e : Event) : (s.raiseIf c e).watch = s.watch := by
  cases c <;> rfl
@[simp] theorem State.raiseIf_pending (c : Bool) (e : Event) : (s.raiseIf c e).pending = s.pending := by
  cases c <;> rfl
@[simp] theorem State.raiseIf_events_mask (c : Bool) (e : Event) : (s.raiseIf c e).events.mask = s.events.mask := by
  cases c <;> rfl
@[simp] theorem State.raiseIf_events_flags (c : Bool) (e : Event) :
    (s.raiseIf c e).events.flags = if c then s.events.flags ||| e.bit else s.events.flags := by
  cases c <;> rfl

/-! ### setPlane -/

@[simp] theorem State.setPlane_straps (p : PlaneName) (m : Memory) : (s.setPlane p m).straps = s.straps := by
  cases p <;> rfl
@[simp] theorem State.setPlane_held (p : PlaneName) (m : Memory) : (s.setPlane p m).held = s.held := by
  cases p <;> rfl
@[simp] theorem State.setPlane_bus (p : PlaneName) (m : Memory) : (s.setPlane p m).bus = s.bus := by
  cases p <;> rfl
@[simp] theorem State.setPlane_stream (p : PlaneName) (m : Memory) : (s.setPlane p m).stream = s.stream := by
  cases p <;> rfl
@[simp] theorem State.setPlane_members (p : PlaneName) (m : Memory) : (s.setPlane p m).members = s.members := by
  cases p <;> rfl
@[simp] theorem State.setPlane_peers (p : PlaneName) (m : Memory) : (s.setPlane p m).peers = s.peers := by
  cases p <;> rfl
@[simp] theorem State.setPlane_barrier (p : PlaneName) (m : Memory) : (s.setPlane p m).barrier = s.barrier := by
  cases p <;> rfl
@[simp] theorem State.setPlane_edge (p : PlaneName) (m : Memory) : (s.setPlane p m).edge = s.edge := by
  cases p <;> rfl
@[simp] theorem State.setPlane_scan (p : PlaneName) (m : Memory) : (s.setPlane p m).scan = s.scan := by
  cases p <;> rfl
@[simp] theorem State.setPlane_port (p : PlaneName) (m : Memory) : (s.setPlane p m).port = s.port := by
  cases p <;> rfl
@[simp] theorem State.setPlane_watch (p : PlaneName) (m : Memory) : (s.setPlane p m).watch = s.watch := by
  cases p <;> rfl
@[simp] theorem State.setPlane_events (p : PlaneName) (m : Memory) : (s.setPlane p m).events = s.events := by
  cases p <;> rfl
@[simp] theorem State.setPlane_pending (p : PlaneName) (m : Memory) : (s.setPlane p m).pending = s.pending := by
  cases p <;> rfl
@[simp] theorem State.setPlane_raster_engine (p : PlaneName) (m : Memory) :
    (s.setPlane p m).raster.engine = s.raster.engine := by
  cases p <;> rfl
@[simp] theorem State.setPlane_raster_issued (p : PlaneName) (m : Memory) :
    (s.setPlane p m).raster.issued = s.raster.issued := by
  cases p <;> rfl
@[simp] theorem State.setPlane_raster_digest (p : PlaneName) (m : Memory) :
    (s.setPlane p m).raster.digest = s.raster.digest := by
  cases p <;> rfl
@[simp] theorem State.setPlane_raster_history (p : PlaneName) (m : Memory) :
    (s.setPlane p m).raster.history = s.raster.history := by
  cases p <;> rfl
@[simp] theorem State.setPlane_raster_mark (p : PlaneName) (m : Memory) :
    (s.setPlane p m).raster.mark = s.raster.mark := by
  cases p <;> rfl
@[simp] theorem State.setPlane_plane (p : PlaneName) (m : Memory) : (s.setPlane p m).plane p = m := by cases p <;> rfl
@[simp] theorem State.setPlane_plane_other (p : PlaneName) (m : Memory) : (s.setPlane p m).plane p.other = s.plane p.other := by
  cases p <;> rfl
@[simp] theorem PlaneName.other_other (p : PlaneName) : p.other.other = p := by cases p <;> rfl
@[simp] theorem PlaneName.other_ne (p : PlaneName) : p.other ≠ p := by cases p <;> decide

/-! ### setDrawPlane -/

@[simp] theorem State.setDrawPlane_straps (m : Memory) : (s.setDrawPlane m).straps = s.straps := by
  simp [State.setDrawPlane]
@[simp] theorem State.setDrawPlane_held (m : Memory) : (s.setDrawPlane m).held = s.held := by
  simp [State.setDrawPlane]
@[simp] theorem State.setDrawPlane_bus (m : Memory) : (s.setDrawPlane m).bus = s.bus := by
  simp [State.setDrawPlane]
@[simp] theorem State.setDrawPlane_stream (m : Memory) : (s.setDrawPlane m).stream = s.stream := by
  simp [State.setDrawPlane]
@[simp] theorem State.setDrawPlane_members (m : Memory) : (s.setDrawPlane m).members = s.members := by
  simp [State.setDrawPlane]
@[simp] theorem State.setDrawPlane_peers (m : Memory) : (s.setDrawPlane m).peers = s.peers := by
  simp [State.setDrawPlane]
@[simp] theorem State.setDrawPlane_barrier (m : Memory) : (s.setDrawPlane m).barrier = s.barrier := by
  simp [State.setDrawPlane]
@[simp] theorem State.setDrawPlane_edge (m : Memory) : (s.setDrawPlane m).edge = s.edge := by
  simp [State.setDrawPlane]
@[simp] theorem State.setDrawPlane_scan (m : Memory) : (s.setDrawPlane m).scan = s.scan := by
  simp [State.setDrawPlane]
@[simp] theorem State.setDrawPlane_port (m : Memory) : (s.setDrawPlane m).port = s.port := by
  simp [State.setDrawPlane]
@[simp] theorem State.setDrawPlane_watch (m : Memory) : (s.setDrawPlane m).watch = s.watch := by
  simp [State.setDrawPlane]
@[simp] theorem State.setDrawPlane_events (m : Memory) : (s.setDrawPlane m).events = s.events := by
  simp [State.setDrawPlane]
@[simp] theorem State.setDrawPlane_pending (m : Memory) : (s.setDrawPlane m).pending = s.pending := by
  simp [State.setDrawPlane]
@[simp] theorem State.setDrawPlane_raster_engine (m : Memory) : (s.setDrawPlane m).raster.engine = s.raster.engine := by
  simp [State.setDrawPlane]
@[simp] theorem State.setDrawPlane_raster_issued (m : Memory) : (s.setDrawPlane m).raster.issued = s.raster.issued := by
  simp [State.setDrawPlane]
@[simp] theorem State.setDrawPlane_raster_digest (m : Memory) : (s.setDrawPlane m).raster.digest = s.raster.digest := by
  simp [State.setDrawPlane]
@[simp] theorem State.setDrawPlane_raster_history (m : Memory) : (s.setDrawPlane m).raster.history = s.raster.history := by
  simp [State.setDrawPlane]
@[simp] theorem State.setDrawPlane_raster_mark (m : Memory) : (s.setDrawPlane m).raster.mark = s.raster.mark := by
  simp [State.setDrawPlane]
@[simp] theorem State.setDrawPlane_drawPlane (m : Memory) : (s.setDrawPlane m).drawPlane = m := by
  simp [State.setDrawPlane, State.drawPlane]
@[simp] theorem State.setDrawPlane_shownPlane (m : Memory) : (s.setDrawPlane m).shownPlane = s.shownPlane := by
  cases h : s.barrier.shown <;> simp [State.setDrawPlane, State.shownPlane, State.plane, State.setPlane, PlaneName.other, h]

end Sys2Proof.Machine
end

