-- ==== Sys2Proof/Laws/Frames.lean ====
section
/-! SUPPORT. What the work of the engine, the barrier, the edge unit, the membership unit and the line leaves as it was: one
relation, and one lemma for each shared operation that says the operation keeps it. -/

namespace Sys2Proof.Machine

/-- Nothing that belongs to the straps, the local port, the watch table or the planes has changed, no flag has been cleared, and
the peer table still has its entries. -/
structure Keeps (s t : State) : Prop where
  straps : t.straps = s.straps
  held : t.held = s.held
  port : t.port = s.port
  watch : t.watch = s.watch
  pending : t.pending = s.pending
  planeA : t.raster.planeA = s.raster.planeA
  planeB : t.raster.planeB = s.raster.planeB
  lastPost : t.stream.lastPost = s.stream.lastPost
  mask : t.events.mask = s.events.mask
  flags : ∀ i, s.events.flags.getLsbD i = true → t.events.flags.getLsbD i = true
  peers : t.peers.length = s.peers.length

theorem Keeps.refl (s : State) : Keeps s s := by constructor <;> first | rfl | exact fun _ h => h

theorem Keeps.trans {s t u : State} (h : Keeps s t) (k : Keeps t u) : Keeps s u where
  straps := k.straps.trans h.straps
  held := k.held.trans h.held
  port := k.port.trans h.port
  watch := k.watch.trans h.watch
  pending := k.pending.trans h.pending
  planeA := k.planeA.trans h.planeA
  planeB := k.planeB.trans h.planeB
  lastPost := k.lastPost.trans h.lastPost
  mask := k.mask.trans h.mask
  flags := fun i hi => k.flags i (h.flags i hi)
  peers := k.peers.trans h.peers

variable (s : State)

/-! ### Whole parts replaced -/

theorem keeps_bus (b : Bus) : Keeps s { s with bus := b } := by constructor <;> simp
theorem keeps_members (m : Members) : Keeps s { s with members := m } := by constructor <;> simp
theorem keeps_barrier (b : Barrier) : Keeps s { s with barrier := b } := by constructor <;> simp
theorem keeps_stream (st : Stream) (h : st.lastPost = s.stream.lastPost) : Keeps s { s with stream := st } := by
  constructor <;> simp [h]
theorem keeps_raster (r : Raster) (ha : r.planeA = s.raster.planeA) (hb : r.planeB = s.raster.planeB) :
    Keeps s { s with raster := r } := by constructor <;> simp [ha, hb]
theorem keeps_edge (e : Edge) : Keeps s { s with edge := e } := by constructor <;> simp

/-! ### The named updates -/

theorem keeps_setPeer (n : Station) (f : Peer → Peer) : Keeps s (s.setPeer n f) := by
  constructor <;> simp [State.setPeer]

theorem keeps_mapPeers (f : Peer → Peer) : Keeps s (s.mapPeers f) := by constructor <;> simp [State.mapPeers]

theorem keeps_raise (e : Event) : Keeps s (s.raise e) := by
  constructor <;> simp +contextual [State.raise]

theorem keeps_raiseIf (c : Bool) (e : Event) : Keeps s (s.raiseIf c e) := by
  cases c
  · exact Keeps.refl s
  · exact keeps_raise s e

theorem keeps_setFraming (f : Framing) : Keeps s (s.setFraming f) := by constructor <;> simp
theorem keeps_setTx (t : Option Txn) : Keeps s (s.setTx t) := by constructor <;> simp
theorem keeps_setShift (x : Option Shift) : Keeps s (s.setShift x) := by constructor <;> simp
theorem keeps_setOutbox (l : List OutboxRecord) : Keeps s (s.setOutbox l) := by constructor <;> simp
theorem keeps_setInbox (l : List InboxEntry) : Keeps s (s.setInbox l) := by constructor <;> simp
theorem keeps_setEngine (e : EngineState) (i : Nat) : Keeps s (s.setEngine e i) := by constructor <;> simp
theorem keeps_setStation (st : StationState) (l b : Option Nat) (h : Option HelloKind) :
    Keeps s (s.setStation st l b h) := by constructor <;> simp
theorem keeps_setExpected (n : Station) (e : Byte) : Keeps s (s.setExpected n e) := keeps_setPeer s n _
theorem keeps_restartSilence (n : Station) : Keeps s (s.restartSilence n) := keeps_setPeer s n _
theorem keeps_holdVote (n : Station) (t : Epoch) : Keeps s (s.holdVote n t) := by constructor <;> simp
theorem keeps_decideAck : Keeps s s.decideAck := by constructor <;> simp
theorem keeps_setEpoch (e : Epoch) : Keeps s (s.setEpoch e) := by constructor <;> simp
theorem keeps_recordDigest (t : Epoch) : Keeps s (s.recordDigest t) := by constructor <;> simp
theorem keeps_startRow (r late : Nat) : Keeps s (s.startRow r late) := by constructor <;> simp
theorem keeps_startFrame (late : Nat) : Keeps s (s.startFrame late) := (keeps_startRow s 0 late).trans (keeps_raise _ _)

theorem keeps_endRow : Keeps s s.endRow := by
  unfold State.endRow
  split
  · exact keeps_startRow s _ _
  · exact keeps_startFrame s _

theorem keeps_diverge (r : DivergenceRecord) : Keeps s (s.diverge r) := by
  unfold State.diverge
  dsimp only
  split
  · exact (keeps_raise s _).trans (keeps_setPeer _ _ _)
  · exact ((keeps_raise s _).trans (keeps_setPeer _ _ _)).trans (keeps_members _ _)

/-! ### The Edge Unit -/

theorem keeps_discardIneligible : Keeps s s.discardIneligible := by
  unfold State.discardIneligible
  split
  · exact Keeps.refl s
  · exact (keeps_setOutbox s _).trans (keeps_raiseIf _ _ _)

theorem keeps_tryCapture : Keeps s s.tryCapture := by
  unfold State.tryCapture
  split
  · split
    · split
      · exact keeps_setShift s _
      · split
        · exact keeps_setShift s _
        · split
          · exact (keeps_setOutbox s _).trans (keeps_setShift _ _)
          · exact Keeps.refl s
    · exact Keeps.refl s
  · exact Keeps.refl s

theorem keeps_recheckOutbox : Keeps s s.recheckOutbox :=
  ((keeps_discardIneligible s).trans (keeps_tryCapture _)).trans (keeps_discardIneligible _)

theorem keeps_startFill (x : Shift) (d : Option (List Byte)) : Keeps s (s.startFill x d) := by
  unfold State.startFill
  dsimp only
  exact ((keeps_setShift s _).trans (keeps_setEngine _ _ _)).trans (keeps_edge _ _)

theorem keeps_decideFill (x : Shift) : Keeps s (s.decideFill x) := by
  unfold State.decideFill
  split
  · exact keeps_startFill s x none
  · split
    · exact keeps_startFill s x _
    · split
      · exact (keeps_setInbox s _).trans (keeps_startFill _ x _)
      · split
        · exact ((keeps_setShift s _).trans (keeps_setEngine _ _ _)).trans (keeps_edge _ _)
        · exact (keeps_startFill s x none).trans (keeps_raise _ _)

theorem keeps_endEdgeWait : Keeps s s.endEdgeWait := by
  unfold State.endEdgeWait
  split
  · split
    · exact (keeps_startFill s _ none).trans (keeps_raise _ _)
    · exact Keeps.refl s
  · exact Keeps.refl s

theorem keeps_takeStrip (p : EdgePayload) : Keeps s (s.takeStrip p) := by
  unfold State.takeStrip
  split
  · exact keeps_startFill s _ _
  · exact keeps_setShift s _
  · exact keeps_setInbox s _
  all_goals exact Keeps.refl s

/-! ### The Raster Engine and the Barrier Unit -/

theorem keeps_leaveIfDrained : Keeps s s.leaveIfDrained := by
  unfold State.leaveIfDrained
  split
  · constructor <;> simp
  · exact Keeps.refl s

theorem keeps_complete : Keeps s s.complete := by
  unfold State.complete
  split
  · exact Keeps.refl s
  · rename_i r rest _
    refine Keeps.trans ?_ (keeps_leaveIfDrained _)
    refine Keeps.trans ?_ (keeps_setInbox _ _)
    refine Keeps.trans ?_ (keeps_setShift _ _)
    refine Keeps.trans ?_ (keeps_setEngine _ _ _)
    exact (keeps_setPeer s r.originator _).trans (keeps_stream _ _ rfl)

theorem keeps_commitFor (t : Epoch) : Keeps s (s.commitFor t) := by
  have h : Keeps s
      { s with barrier := { s.barrier with shown := s.barrier.shown.other, committed := t, timer := none, pending := none } } := by
    constructor <;> simp
  unfold State.commitFor
  have k := (h.trans (keeps_startFrame _ 0)).trans (keeps_raise _ .commit)
  dsimp only
  split
  · exact k.trans (keeps_setEngine _ _ _)
  · exact k.trans (keeps_complete _)

theorem keeps_beginShift (r : InRecord) (d : Direction) (k : Nat) (rotate : Bool) : Keeps s (s.beginShift r d k rotate) := by
  unfold State.beginShift
  have h := ((keeps_setShift s (some ⟨r.originator, r.seq, d, k, rotate, .capture, none⟩)).trans
    (keeps_setEngine _ .applying 0)).trans (keeps_tryCapture _)
  dsimp only
  split
  · exact h.trans (keeps_discardIneligible _)
  · exact h

theorem keeps_beginPresent (t : Epoch) : Keeps s (s.beginPresent t) := by
  unfold State.beginPresent
  have h := (keeps_recordDigest s t).trans (keeps_setEngine _ .awaitBarrier 0)
  dsimp only
  split
  · exact h.trans (keeps_barrier _ _)
  · exact (h.trans (keeps_barrier _ _)).trans (keeps_commitFor _ t)

theorem keeps_take (r : InRecord) : Keeps s (s.take r) := by
  have h : Keeps s { s with raster := { s.raster with digest := foldRecord s.raster.digest r } } := by
    constructor <;> simp
  unfold State.take
  dsimp only
  split
  · exact h.trans (keeps_complete _)
  · split
    · exact h.trans (keeps_complete _)
    · exact h.trans (keeps_beginShift _ _ _ _ _)
    · exact h.trans (keeps_beginPresent _ _)
    · split
      · exact h.trans (keeps_complete _)
      · exact h.trans (keeps_setEngine _ _ _)

theorem keeps_settleFor (fuel : Nat) : ∀ s, Keeps s (State.settleFor fuel s) := by
  induction fuel with
  | zero => exact Keeps.refl
  | succ fuel ih =>
    intro s
    unfold State.settleFor
    split
    · split
      · exact Keeps.refl s
      · exact (keeps_take s _).trans (ih _)
    · exact Keeps.refl s

theorem keeps_settle : Keeps s s.settle := keeps_settleFor _ s

theorem keeps_commitNow : Keeps s s.commitNow := by
  unfold State.commitNow
  split
  · exact (keeps_commitFor s _).trans (keeps_settle _)
  · exact Keeps.refl s

theorem keeps_evaluateCommit : Keeps s s.evaluateCommit := by
  unfold State.evaluateCommit
  split
  · split
    · exact keeps_commitNow s
    · exact Keeps.refl s
  · exact Keeps.refl s

theorem keeps_rosterChanged : Keeps s s.rosterChanged := (keeps_recheckOutbox s).trans (keeps_evaluateCommit _)

theorem keeps_finishRecord : Keeps s s.finishRecord := (keeps_complete s).trans (keeps_settle _)

/-! ### The Membership Unit -/

theorem keeps_abandonWaits : Keeps s s.abandonWaits :=
  ((keeps_recheckOutbox s).trans (keeps_endEdgeWait _)).trans (keeps_commitNow _)

theorem keeps_enterOutOfStep : Keeps s s.enterOutOfStep :=
  (((keeps_setStation s _ _ _ _).trans (keeps_raise _ _)).trans (keeps_abandonWaits _)).trans (keeps_leaveIfDrained _)

theorem keeps_enterBusFault : Keeps s s.enterBusFault := by
  unfold State.enterBusFault
  refine Keeps.trans ?_ (keeps_abandonWaits _)
  exact (((keeps_setStation s _ _ _ _).trans (keeps_raise _ .busFault)).trans (keeps_mapPeers _ _)).trans (keeps_bus _ _)

theorem keeps_enterListening : Keeps s s.enterListening :=
  (((keeps_setStation s _ _ _ _).trans (keeps_mapPeers _ _)).trans (keeps_setInbox _ _)).trans (keeps_rosterChanged _)

theorem keeps_dropPeers (gone : List Station) : Keeps s (s.dropPeers gone) := by
  unfold State.dropPeers
  refine Keeps.trans ?_ (keeps_raiseIf _ _ _)
  induction gone generalizing s with
  | nil => exact Keeps.refl s
  | cons n rest ih => exact (keeps_setPeer s n _).trans (ih _)

theorem keeps_enterMember (acked : List Station) : Keeps s (s.enterMember acked) := by
  unfold State.enterMember
  refine Keeps.trans ?_ (keeps_rosterChanged _)
  refine Keeps.trans ?_ (keeps_raise _ _)
  exact (((keeps_dropPeers s _).trans (keeps_setStation _ _ _ _ _)).trans (keeps_barrier _ _)).trans
    (keeps_raster _ _ rfl rfl)

theorem keeps_removePeer (n : Station) (d : PeerState) : Keeps s (s.removePeer n d) := by
  unfold State.removePeer
  dsimp only
  split
  · exact ((keeps_setPeer s n _).trans (keeps_raise _ _)).trans (keeps_rosterChanged _)
  · exact keeps_setPeer s n _

theorem keeps_reportGap : Keeps s s.reportGap := by
  unfold State.reportGap
  split
  · constructor <;> simp
  · exact Keeps.refl s

theorem keeps_observeOther (n : Station) (q : Byte) : Keeps s (s.observeOther n q) := by
  unfold State.observeOther
  split
  · exact (keeps_setExpected s n _).trans (keeps_reportGap _)
  · exact keeps_setExpected s n _

/-! ### The line and the transactions -/

theorem keeps_writePendingVote : Keeps s s.writePendingVote := by
  unfold State.writePendingVote
  split
  · exact ((keeps_setPeer s _ _).trans (keeps_barrier _ _)).trans (keeps_evaluateCommit _)
  · exact Keeps.refl s

theorem keeps_leaveMessage (f : Framing) : Keeps s (s.leaveMessage f) :=
  (keeps_setFraming s f).trans (keeps_writePendingVote _)

theorem keeps_placeLine : Keeps s s.placeLine := by
  unfold State.placeLine
  split
  · exact Keeps.refl s
  · split <;> first | exact keeps_leaveMessage s _ | exact Keeps.refl s

theorem keeps_contendWith (rivals : List (BitVec 6)) : Keeps s (s.contendWith rivals) := by
  unfold State.contendWith
  split
  · dsimp only
    split
    · exact keeps_recheckOutbox s
    · split
      · exact ((keeps_recheckOutbox s).trans (keeps_setTx _ _)).trans (keeps_setFraming _ _)
      · exact (keeps_recheckOutbox s).trans (keeps_setFraming _ _)
  · exact Keeps.refl s

theorem keeps_appendInbound (b : List Byte) (o : Station) (q : Byte) (bad : Bool) : Keeps s (s.appendInbound b o q bad) := by
  unfold State.appendInbound
  dsimp only
  refine Keeps.trans ?_ (keeps_raiseIf _ _ _)
  constructor <;> simp

theorem keeps_selfDeliver (t : Txn) : Keeps s (s.selfDeliver t) := by
  unfold State.selfDeliver
  dsimp only
  refine Keeps.trans ?_ (keeps_settle _)
  have h := keeps_appendInbound s t.payload s.straps.n t.seq false
  generalize s.appendInbound t.payload s.straps.n t.seq false = u at h ⊢
  refine h.trans ?_
  constructor <;> simp

theorem keeps_completeCrc (t : Txn) : Keeps s (s.completeCrc t) := by
  unfold State.completeCrc
  dsimp only
  split
  · exact ((keeps_setTx s _).trans (keeps_setFraming _ _)).trans (keeps_selfDeliver _ _)
  · exact (keeps_setTx s _).trans (keeps_setFraming _ _)

theorem keeps_closeAckField (t : Txn) (slots : List Station) : Keeps s (s.closeAckField t slots) :=
  (keeps_setTx s _).trans (keeps_setFraming _ _)

theorem keeps_startBreak (t : Txn) (wait : Nat) (f : Framing) : Keeps s (s.startBreak t wait f) :=
  (keeps_setTx s _).trans (keeps_setFraming _ _)

theorem keeps_endAckField (slots : List Station) : Keeps s (s.endAckField slots) := by
  unfold State.endAckField
  split
  · split <;> first | exact keeps_closeAckField s _ _ | exact Keeps.refl s
  · exact Keeps.refl s

theorem keeps_mismatchNow : Keeps s s.mismatchNow := by
  unfold State.mismatchNow
  split
  · split
    · dsimp only
      split <;> exact keeps_startBreak s _ _ _
    · exact keeps_startBreak s _ _ _
    all_goals exact Keeps.refl s
  · exact Keeps.refl s

theorem keeps_countVote (t : Epoch) : Keeps s (s.countVote t) := by
  unfold State.countVote
  constructor <;> simp

theorem keeps_removeOutbound : Keeps s s.removeOutbound := by
  unfold State.removeOutbound
  refine Keeps.trans ?_ (keeps_raiseIf _ _ _)
  constructor <;> simp

theorem keeps_dropAfter (o : Outcome) (acked : List Station) : Keeps s (s.dropAfter o acked) := by
  cases o <;> first | exact keeps_dropPeers s _ | exact Keeps.refl s

theorem keeps_ownerEnds (t : Txn) (o : Outcome) (fourth : Bool) : Keeps s (s.ownerEnds t o fourth) := by
  unfold State.ownerEnds
  split
  · split
    · exact ((keeps_countVote s _).trans (keeps_dropAfter _ _ _)).trans (keeps_rosterChanged _)
    · exact (keeps_countVote s _).trans (keeps_evaluateCommit _)
  · split
    · exact ((keeps_removeOutbound s).trans (keeps_dropAfter _ _ _)).trans (keeps_rosterChanged _)
    · exact keeps_removeOutbound s
  · exact ((keeps_setOutbox s _).trans (keeps_raiseIf _ _ _)).trans (keeps_recheckOutbox _)
  · exact keeps_setStation s _ _ _ _
  · split
    · constructor <;> simp
    · exact keeps_enterMember s _
  · split
    · constructor <;> simp
    · exact keeps_enterListening s

theorem keeps_endTransaction (t : Txn) (o : Outcome) : Keeps s (s.endTransaction t o) := by
  have h (b : Bus) : Keeps s { s with bus := b } := by constructor <;> simp
  unfold State.endTransaction
  dsimp only
  split
  · refine Keeps.trans ?_ (keeps_enterBusFault _)
    split
    · exact h _
    · exact (h _).trans (keeps_ownerEnds _ _ _ _)
  · split
    · exact h _
    · exact (h _).trans (keeps_ownerEnds _ _ _ _)

theorem keeps_endResetBreak (t : Txn) : Keeps s (s.endResetBreak t) := by constructor <;> simp [State.endResetBreak]

/-! ### The receptions -/

theorem keeps_beforeMessage (a : BitVec 3) : Keeps s (s.beforeMessage a) := by
  unfold State.beforeMessage
  split
  · split
    · exact keeps_placeLine s
    · exact Keeps.refl s
  · split
    · exact keeps_placeLine s
    · exact Keeps.refl s
  all_goals first | exact keeps_placeLine s | exact Keeps.refl s

theorem keeps_handOn (cls : MsgClass) (m : Received) (blocks : State → State) (h : ∀ u, Keeps u (blocks u)) :
    Keeps s (s.handOn cls m blocks) := by
  unfold State.handOn
  dsimp only
  split
  · exact Keeps.refl s
  · split
    · exact (keeps_beforeMessage s _).trans (keeps_leaveMessage _ _)
    · have k := (keeps_beforeMessage s m.attempt).trans
        (keeps_setFraming _
          { (s.beforeMessage m.attempt).bus.framing.ackField (lastRun (frameBits cls m)) with ackDue := false })
      split
      · exact k
      · split
        · exact k.trans (keeps_enterBusFault _)
        · exact (k.trans (keeps_restartSilence _ _)).trans (h _)

theorem keeps_unlessForeign (m : Received) (blocks : State → State) (h : ∀ u, Keeps u (blocks u)) :
    Keeps s (s.unlessForeign m blocks) := by
  unfold State.unlessForeign
  split
  · exact Keeps.refl s
  · exact h s

theorem keeps_checkGeometry (o : Station) (g : Byte) (blocks : State → State) (h : ∀ u, Keeps u (blocks u)) :
    Keeps s (s.checkGeometry o g blocks) := by
  unfold State.checkGeometry
  split
  · exact h s
  · exact (keeps_raise s _).trans (keeps_removePeer _ _ _)

theorem keeps_judgeCanvas (m : Received) : Keeps s (s.judgeCanvas m) := by
  unfold State.judgeCanvas
  split
  · split
    · unfold State.acceptCanvas
      dsimp only
      exact (((keeps_appendInbound s _ _ _ _).trans (keeps_setExpected _ _ _)).trans (keeps_decideAck _)).trans (keeps_settle _)
    · exact Keeps.refl s
    · exact keeps_decideAck s
    · exact keeps_enterOutOfStep s
  · split
    · unfold State.observeCanvas
      dsimp only
      have k : ∀ e, Keeps s ({ s with stream := { s.stream with epoch := e } }.setExpected m.originator (m.seq + 1)) := by
        intro e
        refine Keeps.trans ?_ (keeps_setExpected _ _ _)
        constructor <;> simp
      split
      · exact (k _).trans (keeps_reportGap _)
      · exact k _
    · exact Keeps.refl s

theorem keeps_judgeVote (m : Received) : Keeps s (s.judgeVote m) := by
  unfold State.judgeVote
  split
  · split
    · exact keeps_enterOutOfStep s
    · split
      · exact (keeps_decideAck s).trans (keeps_holdVote _ _ _)
      · exact Keeps.refl s
  · split
    · split
      · exact (keeps_observeOther s _ _).trans (keeps_holdVote _ _ _)
      · exact keeps_observeOther s _ _
    · exact Keeps.refl s

theorem keeps_judgeEdge (m : Received) : Keeps s (s.judgeEdge m) := by
  unfold State.judgeEdge
  split
  · split
    · exact keeps_enterOutOfStep s
    · split
      · split
        · exact (keeps_takeStrip s _).trans (keeps_decideAck _)
        · exact keeps_takeStrip s _
      · exact Keeps.refl s
  · split
    · exact keeps_observeOther s _ _
    · exact Keeps.refl s

theorem keeps_malformedHello (m : Received) : Keeps s (s.malformedHello m) := by
  unfold State.malformedHello
  split
  · exact Keeps.refl s
  · split
    · split
      · exact keeps_enterOutOfStep s
      · exact Keeps.refl s
    · split
      · exact keeps_observeOther s _ _
      · exact Keeps.refl s

theorem keeps_compareEpoch (o : Station) (e : Epoch) : Keeps s (s.compareEpoch o e) := by
  unfold State.compareEpoch
  split
  · exact Keeps.refl s
  · exact keeps_diverge s _

theorem keeps_compareDigest (o : Station) (c : Epoch) (d : BitVec 32) (b : Bool) : Keeps s (s.compareDigest o c d b) := by
  unfold State.compareDigest
  split
  · split
    · exact keeps_diverge s _
    · exact Keeps.refl s
  · exact Keeps.refl s

theorem keeps_observeCandidate (o : Station) : Keeps s (s.observeCandidate o) := by
  unfold State.observeCandidate
  split
  · exact keeps_setPeer s o _
  · exact (keeps_setPeer s o _).trans (keeps_rosterChanged _)

theorem keeps_afterJoin (changed : Bool) : Keeps s (s.afterJoin changed) := by
  unfold State.afterJoin
  split
  · exact keeps_rosterChanged s
  · exact keeps_evaluateCommit s

theorem keeps_judgeBeacon (m : Received) (e v c : Epoch) (d : BitVec 32) (b : Bool) : Keeps s (s.judgeBeacon m e v c d b) := by
  unfold State.judgeBeacon
  dsimp only
  split
  · exact Keeps.refl s
  · split
    · split
      · exact keeps_enterOutOfStep s
      · split
        · exact ((keeps_compareEpoch s _ _).trans (keeps_compareDigest _ _ _ _ _)).trans (keeps_holdVote _ _ _)
        · exact Keeps.refl s
    · split
      · exact (((keeps_observeOther s _ _).trans (keeps_observeCandidate _ _)).trans (keeps_setEpoch _ _)).trans
          (keeps_holdVote _ _ _)
      · exact Keeps.refl s

theorem keeps_judgeJoin (m : Received) (e : Epoch) : Keeps s (s.judgeJoin m e) := by
  unfold State.judgeJoin
  dsimp only
  have k := keeps_setPeer s m.originator Peer.clearForeign
  split
  · have k' := k.trans (keeps_setExpected _ m.originator (m.seq + 1))
    split
    · unfold State.admitJoin
      exact (((k'.trans (keeps_setPeer _ _ _)).trans (keeps_decideAck _)).trans (keeps_raise _ _)).trans (keeps_afterJoin _ _)
    · unfold State.refuseJoin
      dsimp only
      split
      · exact (k'.trans (keeps_diverge _ _)).trans (keeps_removePeer _ _ _)
      · exact k'.trans (keeps_diverge _ _)
  · split
    · exact ((k.trans (keeps_setExpected _ _ _)).trans (keeps_setPeer _ _ _)).trans (keeps_afterJoin _ _)
    · exact k

theorem keeps_judgeLeave (m : Received) : Keeps s (s.judgeLeave m) := by
  unfold State.judgeLeave State.peerLeaves
  dsimp only
  split
  · exact Keeps.refl s
  · split
    · split
      · exact (keeps_enterOutOfStep s).trans (keeps_removePeer _ _ _)
      · exact keeps_removePeer s _ _
    · split
      · exact (keeps_observeOther s _ _).trans (keeps_removePeer _ _ _)
      · exact keeps_removePeer s _ _

theorem keeps_discardMessage (bits : List Bool) : Keeps s (s.discardMessage bits) := by
  unfold State.discardMessage
  split
  · exact Keeps.refl s
  · split
    · exact keeps_leaveMessage s _
    · exact keeps_setFraming s _

theorem keeps_breakOnLine : Keeps s s.breakOnLine := by
  unfold State.breakOnLine
  split
  · exact Keeps.refl s
  · exact keeps_setFraming s _

theorem keeps_endLine : Keeps s s.endLine := by
  unfold State.endLine
  split <;> first | exact keeps_placeLine s | exact Keeps.refl s

theorem keeps_enterIdle : Keeps s s.enterIdle := by
  unfold State.enterIdle
  split <;> first | exact keeps_placeLine s | exact Keeps.refl s

theorem keeps_upsetEndField : Keeps s s.upsetEndField := by
  unfold State.upsetEndField
  split
  · exact Keeps.refl s
  · split <;> first | exact keeps_leaveMessage s _ | exact Keeps.refl s

end Sys2Proof.Machine
end

