-- ==== Sys2Proof/Laws/Line.lean ====
section
/-! SUPPORT. The line coding: within a message neither level runs past 8 bit times (R39), so a message is never taken for a break. -/

namespace Sys2Proof.Machine

/-- The run counts as the line coding leaves them: neither above 8, and one of them 0 (R39, R42). -/
structure Framing.Coded (f : Framing) : Prop where
  dominant : f.domRun ≤ Config.codedRun
  recessive : f.recRun ≤ Config.codedRun
  single : f.domRun = 0 ∨ f.recRun = 0

theorem startBit_coded : Framing.startBit.Coded := ⟨by decide, by decide, .inr rfl⟩

/-- A bit of a message, of either value, keeps the runs within the coding's bound. -/
theorem Framing.Coded.count {f : Framing} (h : f.Coded) (zero : Bool) : (f.count (.coded zero)).Coded := by
  obtain ⟨hd, hr, h1⟩ := h
  simp only [Config.codedRun] at hd hr
  cases zero
  · by_cases hc : Config.codedRun ≤ f.recRun
    · simp only [Framing.count, Framing.dominantFor, hc, decide_true, ite_true]
      simp only [Config.codedRun] at hc
      exact ⟨by simp only [Config.codedRun]; omega, by simp, .inr rfl⟩
    · simp only [Framing.count, Framing.dominantFor, hc, decide_false, Bool.false_eq_true, ite_false]
      simp only [Config.codedRun] at hc
      exact ⟨by simp, by simp only [Config.codedRun]; omega, .inl rfl⟩
  · by_cases hc : f.domRun < Config.codedRun
    · simp only [Framing.count, Framing.dominantFor, hc, decide_true, ite_true]
      simp only [Config.codedRun] at hc
      exact ⟨by simp only [Config.codedRun]; omega, by simp, .inr rfl⟩
    · simp only [Framing.count, Framing.dominantFor, hc, decide_false, Bool.false_eq_true, ite_false]
      simp only [Config.codedRun] at hc
      exact ⟨by simp, by simp only [Config.codedRun]; omega, .inl rfl⟩

@[simp] theorem Framing.count_stage (f : Framing) (b : LineBit) : (f.count b).stage = f.stage := by
  unfold Framing.count
  split <;> rfl

@[simp] theorem Framing.count_bits (f : Framing) (b : LineBit) : (f.count b).bits = f.bits := by
  unfold Framing.count
  split <;> rfl

/-- A bit of a message in FRAME never brings a break: the stage stays FRAME and the bit is read. -/
theorem Framing.Coded.follow {f : Framing} (h : f.Coded) (hs : f.stage = .frame) (zero : Bool) :
    (f.follow (.coded zero)).stage = .frame ∧ (f.follow (.coded zero)).bits = f.bits ++ [!zero] ∧
      (f.follow (.coded zero)).Coded := by
  have hc := h.count zero
  have hb : ¬ Config.breakSeen ≤ (f.count (.coded zero)).domRun := by
    have := hc.dominant
    simp only [Config.codedRun, Config.breakSeen] at this ⊢
    omega
  simp only [Framing.follow, hs, hb, ite_false, LineBit.readsZero]
  exact ⟨by simp [hs], trivial, ⟨hc.dominant, hc.recessive, hc.single⟩⟩

/-- The recessive run that a message leaves is at most 8 (R39). -/
theorem lastRun_le (bits : List Bool) : lastRun bits ≤ Config.codedRun := by
  have h : ∀ (l : List Bool) (f : Framing), f.Coded → (l.foldl (fun f bit => f.count (.coded (!bit))) f).Coded := by
    intro l
    induction l with
    | nil => exact fun _ hf => hf
    | cons b l ih => exact fun f hf => ih _ (hf.count _)
  exact (h _ _ startBit_coded).recessive

end Sys2Proof.Machine
end

