-- ==== Sys2Proof/Laws/Memory.lean ====
section
/-! SUPPORT. The laws of the planes: a byte read after a write, and the canonical form that every write keeps. -/

namespace Sys2Proof.Machine

@[simp] theorem Memory.read_nil (a : Nat) : Memory.read [] a = 0 := rfl

theorem Memory.read_cons (b : Nat) (v : Byte) (m : Memory) (a : Nat) :
    Memory.read ((b, v) :: m) a = if b = a then v else Memory.read m a := rfl

/-- Below its first address a list of cells reads 0. -/
theorem Memory.read_below (m : Memory) (low a : Nat) (h : Memory.wfAbove low m = true) (ha : a < low) : m.read a = 0 := by
  induction m generalizing low with
  | nil => rfl
  | cons c m ih =>
    obtain ⟨b, v⟩ := c
    simp only [Memory.wfAbove, Bool.and_eq_true, decide_eq_true_eq] at h
    rw [Memory.read_cons, if_neg (by omega)]
    exact ih (b + 1) h.2 (by omega)

/-- A bound may be lowered. -/
theorem Memory.wfAbove_mono (m : Memory) (low low' : Nat) (h : Memory.wfAbove low m = true) (hle : low' ≤ low) :
    Memory.wfAbove low' m = true := by
  cases m with
  | nil => rfl
  | cons c m =>
    obtain ⟨b, v⟩ := c
    simp only [Memory.wfAbove, Bool.and_eq_true, decide_eq_true_eq] at h ⊢
    exact ⟨⟨⟨by omega, h.1.1.2⟩, h.1.2⟩, h.2⟩

/-- An inserted cell keeps the canonical form. -/
theorem Memory.insert_wfAbove (m : Memory) (low a : Nat) (v : Byte) (h : Memory.wfAbove low m = true) (hlow : low ≤ a)
    (ha : a < Config.planeBytes) : Memory.wfAbove low (m.insert a v) = true := by
  induction m generalizing low with
  | nil =>
    unfold Memory.insert
    split <;> simp_all [Memory.wfAbove]
  | cons c m ih =>
    obtain ⟨b, x⟩ := c
    have h' := h
    simp only [Memory.wfAbove, Bool.and_eq_true, decide_eq_true_eq] at h
    obtain ⟨⟨⟨h1, h2⟩, h3⟩, h4⟩ := h
    unfold Memory.insert
    split
    · split
      · exact h'
      · rename_i hab hv
        simp only [Memory.wfAbove, Bool.and_eq_true, decide_eq_true_eq]
        exact ⟨⟨⟨hlow, ha⟩, hv⟩, ⟨⟨⟨by omega, h2⟩, h3⟩, h4⟩⟩
    · split
      · rename_i hab
        subst hab
        split
        · exact Memory.wfAbove_mono m _ _ h4 (by omega)
        · rename_i hv
          simp only [Memory.wfAbove, Bool.and_eq_true, decide_eq_true_eq]
          exact ⟨⟨⟨hlow, ha⟩, hv⟩, h4⟩
      · simp only [Memory.wfAbove, Bool.and_eq_true, decide_eq_true_eq]
        exact ⟨⟨⟨h1, h2⟩, h3⟩, ih (b + 1) h4 (by omega)⟩

/-- Every write keeps the canonical form. -/
theorem Memory.write_wf (m : Memory) (a : Nat) (v : Byte) (h : m.wf = true) : (m.write a v).wf = true := by
  unfold Memory.write
  split
  · exact Memory.insert_wfAbove m 0 a v h (by omega) (by assumption)
  · exact h

/-- A list of cells with an inserted one: the new value at its address, the old ones elsewhere. -/
theorem Memory.read_insert (m : Memory) (low a b : Nat) (v : Byte) (h : Memory.wfAbove low m = true) :
    (m.insert a v).read b = if a = b then v else m.read b := by
  induction m generalizing low with
  | nil =>
    unfold Memory.insert
    split <;> rename_i hv
    · subst hv; split <;> rfl
    · rfl
  | cons c m ih =>
    obtain ⟨d, x⟩ := c
    have h' := h
    simp only [Memory.wfAbove, Bool.and_eq_true, decide_eq_true_eq] at h
    unfold Memory.insert
    split
    · rename_i had
      split
      · rename_i hv
        subst hv
        split
        · rename_i hab
          subst hab
          rw [Memory.read_cons, if_neg (by omega)]
          exact Memory.read_below m (d + 1) a h.2 (by omega)
        · rfl
      · rfl
    · split
      · rename_i had
        subst had
        split
        · rename_i hv
          subst hv
          split
          · rename_i hab
            subst hab
            exact Memory.read_below m (a + 1) a h.2 (by omega)
          · rename_i hab
            rw [Memory.read_cons, if_neg hab]
        · rw [Memory.read_cons, Memory.read_cons]
          split <;> rfl
      · rw [Memory.read_cons, Memory.read_cons, ih (d + 1) h.2]
        by_cases hdb : d = b
        · subst hdb; simp [show ¬ a = d by omega]
        · simp [hdb]

/-- A byte read after a write (R6): the new value at the address written, the old value elsewhere. -/
theorem Memory.read_write (m : Memory) (a b : Nat) (v : Byte) (h : m.wf = true) (ha : a < Config.planeBytes) :
    (m.write a v).read b = if a = b then v else m.read b := by
  unfold Memory.write
  rw [if_pos ha]
  exact Memory.read_insert m 0 a b v h

/-- A write outside the plane changes nothing. -/
theorem Memory.write_outside (m : Memory) (a : Nat) (v : Byte) (ha : ¬ a < Config.planeBytes) : m.write a v = m := if_neg ha

/-- A plane write keeps the canonical form. -/
theorem Memory.apply_wf (m : Memory) (w : PlaneWrite) (h : m.wf = true) : (m.apply w).wf = true :=
  Memory.write_wf m _ _ h

/-- A byte after a plane write. -/
theorem Memory.read_apply (m : Memory) (w : PlaneWrite) (b : Nat) (h : m.wf = true) (ha : w.address < Config.planeBytes) :
    (m.apply w).read b = if w.address = b then w.result (m.read b) else m.read b := by
  unfold Memory.apply
  rw [Memory.read_write m _ _ _ h ha]
  split
  · rename_i hb; rw [hb]
  · rfl

/-- A bit after a plane write: the value's bit where the mask names it, the old bit elsewhere (R6). -/
theorem PlaneWrite.result_bit (w : PlaneWrite) (old : Byte) (i : Nat) (hi : i < 8) :
    (w.result old).getLsbD i = if w.mask.getLsbD i then w.value.getLsbD i else old.getLsbD i := by
  unfold PlaneWrite.result
  simp only [BitVec.getLsbD_or, BitVec.getLsbD_and, BitVec.getLsbD_not, hi, decide_true, Bool.true_and]
  cases w.mask.getLsbD i <;> simp

/-- Two planes in canonical form with the same bytes are the same plane. -/
theorem Memory.ext_of_read (m m' : Memory) (low low' : Nat) (h : Memory.wfAbove low m = true)
    (h' : Memory.wfAbove low' m' = true) (heq : ∀ a, m.read a = m'.read a) : m = m' := by
  induction m generalizing m' low low' with
  | nil =>
    cases m' with
    | nil => rfl
    | cons c m' =>
      obtain ⟨b, v⟩ := c
      simp only [Memory.wfAbove, Bool.and_eq_true, decide_eq_true_eq] at h'
      have := heq b
      simp [Memory.read_cons] at this
      exact absurd this.symm h'.1.2
  | cons c m ih =>
    obtain ⟨b, v⟩ := c
    simp only [Memory.wfAbove, Bool.and_eq_true, decide_eq_true_eq] at h
    cases m' with
    | nil =>
      have := heq b
      simp [Memory.read_cons] at this
      exact absurd this h.1.2
    | cons c' m' =>
      obtain ⟨b', v'⟩ := c'
      simp only [Memory.wfAbove, Bool.and_eq_true, decide_eq_true_eq] at h'
      have hb : b = b' := by
        rcases Nat.lt_trichotomy b b' with hlt | he | hgt
        · have := heq b
          rw [Memory.read_cons, if_pos rfl, Memory.read_cons, if_neg (by omega),
            Memory.read_below m' (b' + 1) b h'.2 (by omega)] at this
          exact absurd this h.1.2
        · exact he
        · have := heq b'
          rw [Memory.read_cons, if_neg (by omega), Memory.read_cons, if_pos rfl,
            Memory.read_below m (b + 1) b' h.2 (by omega)] at this
          exact absurd this.symm h'.1.2
      subst hb
      have hv : v = v' := by simpa [Memory.read_cons] using heq b
      subst hv
      congr 1
      refine ih m' (b + 1) (b + 1) h.2 h'.2 fun a => ?_
      by_cases ha : b = a
      · subst ha
        rw [Memory.read_below m (b + 1) b h.2 (by omega), Memory.read_below m' (b + 1) b h'.2 (by omega)]
      · simpa [Memory.read_cons, ha] using heq a

end Sys2Proof.Machine
end

