-- ==== Sys2Proof/Tests/Slice0.lean ====
section
/-! SUPPORT. Small tests: the checks of WellFormed, the worked examples of the manual one step at a time, and for every statement
that has hypotheses a state and operands that meet them. -/

namespace Sys2Proof.Tests

open Sys2Proof Sys2Proof.Machine

/-! ### Small states -/

/-- A wall of two tiles, this one the left. -/
def wall : Straps := { n := 0, w := 2, h := 1, fast := true }

/-- Station 0 right after reset. -/
def fresh : State := State.afterReset wall

/-- A roster peer that is expected to send 5 and has voted for 0. -/
def partner : Peer :=
  { state := .member, silence := some 0, expected := some 5, applied := none, voted := some 0, diverged := false }

/-- A state with another station state. -/
def inState (st : StationState) (s : State) : State := { s with members := { s.members with station := st, listenTimer := none } }

/-- Station 0 in MEMBER with station 1 in its roster. -/
def duo : State := { inState .member fresh with peers := fresh.peers.set 1 partner }

/-- The framing stage set. -/
def atStage (st : Stage) (s : State) : State := s.setFraming { Framing.reset with stage := st }

/-- A port transaction has begun. -/
def opened (s : State) : State := { s with port := { s.port with phase := .opened } }

/-- A message of station 1. -/
def said (q : Byte) (payload : List Byte) : Received := { originator := 1, seq := q, attempt := 0, payload := payload }

/-- A transaction in progress. -/
def txOf (owner : TxOwner) (payload : List Byte) (attempts : Nat) (done : Bool) (acked : List Station) (phase : TxPhase) : Txn :=
  { owner := owner, seq := 4, payload := payload, attempts := attempts, crcDone := done, acked := acked, phase := phase }

/-- Sending that transaction. -/
def sending (t : Txn) (s : State) : State := s.setTx (some t)

/-- A record of a station. -/
def recordOf (o : Station) (q : Byte) (bytes : List Byte) (tag : Option Epoch) : InRecord :=
  { bytes := bytes, originator := o, seq := q, tag := tag, malformed := false }

/-- The engine at work on the record at the head of the inbound queue. -/
def working (r : InRecord) (e : EngineState) (s : State) : State :=
  { s with stream := { s.stream with inbound := [r] }, raster := { s.raster with engine := e } }

/-- A SHIFT of record (1, 5) at a step. -/
def shiftAt (d : Direction) (k : Nat) (rotate : Bool) (step : ShiftStep) (strip : Option (List Byte)) : Shift :=
  { originator := 1, seq := 5, direction := d, k := k, rotate := rotate, step := step, strip := strip }

/-- A FILL of 3 by 2 pixels with ink INVERT at x, y. -/
def fillBytes (x y : Byte) : List Byte := [0x01, 0, x, y, 0, 3, 2, 2]

/-- PRESENT SWAP and PRESENT SWAP_COPY. -/
def presentBytes (copy : Bool) : List Byte := [0x04, if copy then 1 else 0]

/-- A record of the outbox for station 1. -/
def strip1 : OutboxRecord :=
  { originator := 0, seq := 0, direction := .left, k := 1, target := 1, data := [1, 2, 3, 4, 5, 6] }

/-! ### WellFormed -/

theorem test_wf_known_opcode_refused : (Instr.unknownOpcode 0x10).wf = false := by decide
theorem test_wf_post_short_refused : (Instr.post [0x03, 0, 1]).wf = false := by decide
theorem test_wf_post_overlong_refused : (Instr.post [0x04, 0, 9]).wf = false := by decide
set_option maxRecDepth 8000 in
theorem test_wf_payload_refused : (Instr.voteReceived (said 4 (List.replicate 161 0))).wf = false := by decide
set_option maxRecDepth 8000 in
theorem test_wf_canvas_payload_refused : (Instr.canvasReceived (said 4 (List.replicate 161 0))).wf = false := by decide
theorem test_wf_beacon_state_refused : (Instr.beaconReceived (said 4 [2, 0x21, 0, 0, 0, 0])).wf = false := by decide
theorem test_wf_join_state_refused : (Instr.joinReceived (said 4 [3, 0x21, 0, 0, 0, 0])).wf = false := by decide
theorem test_wf_leave_state_refused : (Instr.leaveReceived (said 4 [2, 0x21])).wf = false := by decide
theorem test_wf_bad_crc_unread_refused : (Instr.badCrc (List.replicate 25 false)).wf = false := by decide
theorem test_wf_bad_crc_length_taken : (Instr.badCrc (List.replicate 18 false ++ List.replicate 8 true)).wf = true := by decide
set_option maxRecDepth 8000 in
theorem test_wf_longest_payload_taken : (Instr.edgeReceived (said 4 (List.replicate 160 0))).wf = true := by decide

/-! ### Worked examples of the manual -/

/-- 11.4: the POST of STRIP x 286, y 4, OR, three bytes. -/
theorem test_post_bytes :
    decodeTransaction [0x10, 0x02, 0x01, 0x1E, 0x04, 0x01, 0x03, 0xFF, 0x0F, 0x81] 0 =
      [.post [0x02, 0x01, 0x1E, 0x04, 0x01, 0x03, 0xFF, 0x0F, 0x81]] := by decide
theorem test_post_record :
    parseOp { wall with n := 1 } [0x02, 0x01, 0x1E, 0x04, 0x01, 0x03, 0xFF, 0x0F, 0x81] =
      some (.strip 286 4 .or [0xFF, 0x0F, 0x81]) := by decide

/-- 2.8: that STRIP issues 12 writes at station 1, and the FILL before it 448. -/
theorem test_strip_writes : (stripPixels { wall with n := 1 } 286 4 .or [0xFF, 0x0F, 0x81]).length = 12 := by decide
theorem test_fill_writes : fillPixels { wall with n := 1 } 100 0 100 8 = 448 := by decide

/-- 1.5: the FILL at 100, 40 of 300 by 10 on a 2 by 2 wall. -/
theorem test_clip_example :
    ([0, 1, 2, 3] : List Station).map (fun n => fillPixels { wall with n := n, h := 2 } 100 40 300 10) = [352, 1152, 88, 288] := by
  decide

/-- 9.1: the 369th write of the FILL is at local column 46, row 0. -/
theorem test_watch_example : fillPixel { wall with n := 1 } 100 0 100 8 .invert 368 = { column := 46, row := 0, act := .invert } := by
  decide

/-- 7.2: targets and sources of LEFT on a 2 by 2 wall, ROTATE and BLANK. -/
theorem test_left_neighbours :
    ([0, 1, 2, 3] : List Station).map (fun n =>
      let g : Straps := { wall with n := n, h := 2 }
      (g.target .left true, g.source .left true, g.target .left false, g.source .left false)) =
    [(some 1, some 1, none, some 1), (some 0, some 0, some 0, none), (some 3, some 3, none, some 3),
      (some 2, some 2, some 2, none)] := by decide

/-- 7.2: targets and sources of UP on a 2 by 2 wall, ROTATE and BLANK. -/
theorem test_up_neighbours :
    ([0, 1, 2, 3] : List Station).map (fun n =>
      let g : Straps := { wall with n := n, h := 2 }
      (g.target .up true, g.source .up true, g.target .up false, g.source .up false)) =
    [(some 2, some 2, none, some 2), (some 3, some 3, none, some 3), (some 0, some 0, some 0, none),
      (some 1, some 1, some 1, none)] := by decide

/-- 3.4: station 3 with a VOTE wins over station 1 with a CANVAS and station 0 with a HELLO; station 1 wins over 2. -/
theorem test_arbitration_example :
    arbitrate (fieldBits (arbitrationField .vote 3)) [fieldBits (arbitrationField .canvas 1), fieldBits (arbitrationField .hello 0)]
      = true ∧
    arbitrate (fieldBits (arbitrationField .canvas 1)) [fieldBits (arbitrationField .canvas 2)] = true ∧
    arbitrate (fieldBits (arbitrationField .canvas 2)) [fieldBits (arbitrationField .canvas 1)] = false := by decide

/-- 6.6: the folding example. -/
theorem test_folding_example :
    foldRecord (foldRecord 0 (recordOf 2 5 [0x12, 0x34, 0x56] none)) (recordOf 0 9 [0x04, 0x01] (some 31)) = 637445097 := by decide

/-- 11.5: the geometry byte of a 4 by 2 wall. -/
theorem test_geometry_byte : Straps.geometryByte { n := 0, w := 4, h := 2, fast := false } = 0x42 := by decide

/-- 11.7: the status byte of a LISTENING station with nothing set, FRAME masked. -/
theorem test_status_listening : fresh.statusByte = 0x20 := by decide

/-- 11.7: MEMBER, an unmasked flag set, the outbound queue full. -/
theorem test_status_member :
    State.statusByte { duo with
      stream := { duo.stream with outbound := List.replicate 8 [0x04, 0] }, events := { flags := 1, mask := 1 } } = 0x78 := by decide

set_option maxRecDepth 8000 in
/-- 11.3: a VOTE of station 3, seq 7, attempt 0, epoch 9: 58 bit times, class 00 and originator 0011 after the start bit. -/
theorem test_vote_bits :
    (frameBits .vote { originator := 3, seq := 7, attempt := 0, payload := [0, 9] }).length = 58 ∧
    (frameBits .vote { originator := 3, seq := 7, attempt := 0, payload := [0, 9] }).take 26 =
      [false, false, false, false, false, true, true, false, false, false, false, false, true, true, true, false, false, false,
        false, false, false, false, false, false, true, false] := by decide

/-- 12.6: the three-byte write at band 2, column 142: 0x7E goes to column 142 and 0x55 replaces 0xE7 in column 143. -/
theorem test_overlay_write :
    exec (.writeOverlay [0x7E, 0xE7, 0x55]) (opened { fresh with port := { fresh.port with cursor := { band := 2, column := 142 } } }) =
      .next { fresh with port := { fresh.port with
        phase := .writing, cursor := { band := 2, column := 143 }, overlay := [(430, 0x7E), (431, 0x55)] } } := rfl

/-- 12.6: the last read returns 0xC3, 0xFF, 0x7E, 0x55, 0x55, and one more byte is loaded that is not shifted out. -/
theorem test_overlay_read :
    exec (.readOverlay 5) (opened { fresh with port := { fresh.port with
      cursor := { band := 2, column := 140 }, overlay := [(428, 0xC3), (429, 0xFF), (430, 0x7E), (431, 0x55)] } }) =
      .next { fresh with port := { fresh.port with
        phase := .reading, cursor := { band := 2, column := 143 }, out := [0xC3, 0xFF, 0x7E, 0x55, 0x55, 0x55]
        overlay := [(428, 0xC3), (429, 0xFF), (430, 0x7E), (431, 0x55)] } } := rfl

/-- 10.1: the bits of SET CURSOR on **SDI**, the most significant first: 0x30, 0x02, 0x8C. -/
theorem test_set_cursor_bits :
    decodeSdi [false, false, true, true, false, false, false, false, false, false, false, false, false, false, true, false,
      true, false, false, false, true, true, false, false] = [.setCursor 2 140] := by decide

/-- 10.1: the status byte 0x20 on **SDO**, its bit 5 third, and nothing once **CS#** has risen. -/
theorem test_sdo_bits :
    (List.range 8).map { fresh with port := { fresh.port with phase := .opened, out := [0x20] } }.sdoBit =
      [some false, some false, some true, some false, some false, some false, some false, some false] ∧
    { fresh with port := { fresh.port with out := [0x20] } }.sdoBit 2 = none := by decide

/-- 3.1: nine 0 bits in a row: the line coding turns the ninth, so that no break is seen in the message. -/
theorem test_line_coding :
    ((List.replicate 8 true).foldl (fun f zero => f.follow (.coded zero)) Framing.startBit).stage = .frame ∧
    ((List.replicate 8 true).foldl (fun f zero => f.follow (.coded zero)) Framing.startBit).bits = List.replicate 9 false ∧
    ((List.replicate 8 LineBit.held).foldl Framing.follow Framing.startBit).stage = .break := by decide

/-- 3.2, 3.3: station 0 at slot 0 with an ack due drives its slot, so a LINE_END told there leaves 15 slots and 7 end bits recessive;
with no ack due, and a run of 8 before, all 16 slots count on: the 31 of R42. -/
theorem test_line_end_own_slot :
    ∀ due run end_, (due, run, end_) ∈ [(true, 8, 15 + 7), (false, 8, 31)] →
      ∃ t, exec .lineEnd (duo.setFraming { Framing.reset with stage := .ack, recRun := run, ackDue := due }) = .next t ∧
        t.bus.framing.stage = .idle ∧ t.bus.framing.recRun = end_ := by
  intro due run end_ h
  rcases List.mem_pair.mp h with e | e <;> cases e <;> exact ⟨_, rfl, rfl, rfl⟩

/-- 3.2, 3.5: a repeat's start bit read as 1 is a recessive end bit, whatever the run before it. -/
theorem test_mismatch_repeat_start :
    ∃ t, exec .mismatch (sending (txOf (.vote 0) [0, 0] 2 true [] (.sending 0))
        (duo.setFraming { Framing.reset with stage := .ending, recRun := 16 })) = .next t ∧
      t.bus.framing.stage = .ending ∧ t.bus.framing.recRun = 17 ∧ t.bus.framing.domRun = 0 := ⟨_, rfl, by decide, by decide, by decide⟩

/-- 1.4, 1.6: with Plane B shown, the falling edge of **RST#** keeps the picture; the rising edge clears it and shows Plane A. -/
theorem test_reset_pointer :
    let s : State := { duo with
      barrier := { duo.barrier with shown := .b }
      raster := { duo.raster with planeA := Memory.write [] 0 5, planeB := Memory.write [] 0 9 } }
    ∃ t u, exec .rstAsserted s = .next t ∧ t.barrier.shown = .b ∧ t.shownPlane.read 0 = 9 ∧
      exec (.rstRisingEdge { stn := 0, tw := 1, th := 0, rate := true }) t = .next u ∧ u.barrier.shown = .a ∧
      u.shownPlane.read 0 = 0 ∧ u.drawPlane.read 0 = 0 := ⟨_, _, rfl, rfl, by decide, rfl, rfl, by decide, by decide⟩

set_option maxRecDepth 8000 in
/-- 3.2: a first bit 1 leaves the register 0xFFFE, a first bit 0 feeds 0x1021 into it; and the published check value of this polynomial,
preset and bit order: the characters 1 to 9 give 0x29B1. -/
theorem test_crc_register :
    crc16 [] = 0xFFFF ∧ crc16 [true] = 0xFFFE ∧ crc16 [false] = 0xEFDF ∧
      crc16 ([0x31, 0x32, 0x33, 0x34, 0x35, 0x36, 0x37, 0x38, 0x39].flatMap fun b : Byte => fieldBits b) = 0x29B1 := by decide

/-- 10.1, 10.3: the response of READ EVENTS stays on **SDO** until the rise that CS_FALL's row tells, events between or not. -/
theorem test_rise_after_read :
    ∃ t u v, exec .readEvents (opened fresh) = .next t ∧ exec .rowEnd t = .next u ∧ u.sdoByte 1 = some 1 ∧
      exec (.csFall .rise) u = .next v ∧ v.sdoByte 1 = none := ⟨_, _, _, rfl, rfl, by decide, rfl, by decide⟩

/-- 7.3: a SHIFT taken with a head that is not eligible leaves it there, and its own record is appended behind it. -/
theorem test_capture_leaves_head :
    let s : State := working (recordOf 1 5 [0x03, 0, 1, 1] none) .idle (duo.setOutbox [{ strip1 with target := 2 }])
    s.settle.edge.outbox.map (·.target) = [2, 1] ∧ s.settle.flagSet .edgeLost = false := by decide

/-- 11.9: a host's bytes for SET CURSOR band 2, column 140, and a short one. -/
theorem test_set_cursor_bytes :
    decodeTransaction [0x30, 0x02, 0x8C] 0 = [.setCursor 2 140] ∧ decodeTransaction [0x30, 0x02] 3 = [.shortTransaction] := by
  decide

/-- 12.5: the JOIN of a station that sees S 8 in its peer makes it a member there: E 0 after seq field 255. -/
theorem test_join_sets_expected :
    ∃ t, exec (.joinReceived (said 255 [2, 0x21, 0, 0, 0, 0])) (atStage .frame (inState .member fresh)) = .next t ∧
      (t.peer 1).expected = some 0 ∧ t.inRoster 1 = true ∧ t.flagSet .peerJoined = true := ⟨_, rfl, by decide, by decide, by decide⟩

/-! ### The statements' hypotheses can be met -/

theorem witness_StepRunsFront : { fresh with pending := [.csFall, .editEnd] }.pending = .csFall :: [.editEnd] := by decide

theorem witness_CommandsLeaveQueue : ∃ t, exec .editBegin { fresh with pending := [.csFall] } = .next t := ⟨_, rfl⟩

/-- A station whose row timer is at its limit. -/
def rowDue : State := { fresh with scan := { fresh.scan with timer := some 1000 } }

/-- A VOTE being sent in a stage. -/
def sendingVote (st : Stage) (p : TxPhase) : State := sending (txOf (.vote 0) [0, 0] 1 false [] p) (atStage st duo)

theorem witness_EmptyQueuePassesBitTime :
    fresh.pending = [] ∧ fresh.held = false ∧ fresh.assertReset.pending = [] ∧ fresh.assertReset.held = true ∧
      rowDue.pending = [] ∧ rowDue.scan.timer = some 1000 ∧ fresh.expired = [] ∧ fresh.bus.tx = none ∧
      (∀ st : Stage, (atStage st fresh).bus.framing.stage = st ∧ (atStage st fresh).pending = [] ∧ (atStage st fresh).expired = []) ∧
      (∀ p, (sendingVote .frame p).bus.tx = some (txOf (.vote 0) [0, 0] 1 false [] p) ∧ (sendingVote .frame p).pending = [] ∧
        (sendingVote .frame p).expired = [] ∧ (sendingVote .frame p).members.station = .member) ∧
      (sendingVote .frame (.sending 40)).drivesTbd = true ∧
      ({ duo with raster := { duo.raster with engine := .copying, issued := 862 } } : State).raster.issued + 1 < 864 :=
  ⟨by decide, by decide, by decide, by decide, by decide, by decide, by decide, by decide,
    fun st => by cases st <;> decide, fun _ => ⟨rfl, rfl, rfl, rfl⟩, by decide, by decide⟩

set_option maxRecDepth 8000 in
theorem witness_PortBytesSpellCommand :
    (Instr.post ([0x02, 0, 0, 0, 0, 64] ++ List.replicate 64 1)).wf = true ∧
      (encodeTransaction (.post ([0x02, 0, 0, 0, 0, 64] ++ List.replicate 64 1))).isSome = true := by decide

set_option maxRecDepth 8000 in
theorem witness_MessageBitsSpellReception :
    (Instr.canvasReceived (said 0 (List.replicate 160 0))).wf = true ∧
      (messageOf (.canvasReceived (said 0 (List.replicate 160 0)))).isSome = true := by decide

/-- Both ends of k, the last strip column and band, the last column of a vertical strip. -/
theorem witness_PayloadsAreReadBack : (1 ≤ 1 ∧ 1 ≤ 8) ∧ (1 ≤ 8 ∧ 8 ≤ 8) ∧ 7 < 8 ∧ 5 < 6 ∧ 143 < 144 := by decide

theorem witness_StepKeepsPlanesSound : State.reset.PlanesSound ∧ ∃ t, step State.reset = .next t :=
  ⟨⟨by decide, by decide, by decide⟩, _, rfl⟩

theorem witness_StepKeepsQueuesSound :
    (sending (txOf .canvas [0x04, 0] 1 false [] (.sending 7)) fresh).QueuesSound ∧
      ∃ t, step (sending (txOf .canvas [0x04, 0] 1 false [] (.sending 7)) fresh) = .next t :=
  ⟨⟨by decide, by decide, by decide, by decide, by decide, fun _ _ _ => by decide⟩, _, rfl⟩

theorem witness_StepKeepsTablesSound : fresh.TablesSound ∧ ∃ t, step fresh = .next t :=
  ⟨⟨by decide, by decide, by decide, by decide, by decide, by decide, by decide, ⟨by decide, by decide⟩,
    fun _ h => by simp [fresh, State.afterReset] at h, by decide, by decide⟩, _, rfl⟩

theorem witness_OnlyTheEngineWritesTheDrawPlane :
    (∃ t, exec .rowEnd fresh = .next t) ∧ (∀ p, Instr.rowEnd ≠ .powerOn p) ∧ (∀ p, Instr.rowEnd ≠ .rstRisingEdge p) ∧
      Instr.rowEnd ≠ .drawPlaneWrite ∧ Instr.rowEnd ≠ .copyComplete := ⟨⟨_, rfl⟩, nofun, nofun, nofun, nofun⟩

theorem witness_FlagsAreSticky :
    (∃ t, exec .rowEnd fresh = .next t) ∧ (∀ m, Instr.rowEnd ≠ .clearEvents m) ∧ Instr.rowEnd ≠ .softReset ∧
      (∀ p, Instr.rowEnd ≠ .powerOn p) ∧ (∀ p, Instr.rowEnd ≠ .rstRisingEdge p) ∧ Instr.rowEnd ≠ .rstAsserted ∧
      fresh.flagSet .frame = true := ⟨⟨_, rfl⟩, nofun, nofun, nofun, nofun, nofun, by decide⟩

theorem witness_HostSettingsKeepTheirOwners :
    (∃ t, exec (.setMask 3) (opened fresh) = .next t) ∧ (∀ p, Instr.setMask 3 ≠ .powerOn p) ∧
      (∀ p, Instr.setMask 3 ≠ .rstRisingEdge p) ∧ (∀ d r, Instr.setMask 3 ≠ .writeOverlay d r) ∧ Instr.setMask 3 ≠ .rstAsserted ∧
      (∀ m k q, Instr.setMask 3 ≠ .setDisplay m k q) ∧ (∀ e n a b x y, Instr.setMask 3 ≠ .setWatch e n a b x y) ∧
      (∃ t, exec .rowEnd fresh = .next t) ∧ (∀ m, Instr.rowEnd ≠ .setMask m) :=
  ⟨⟨_, rfl⟩, nofun, nofun, nofun, nofun, nofun, nofun, ⟨_, rfl⟩, nofun⟩

/-- A VOTE of a roster peer is acked: the ack is decided here. -/
theorem witness_AcksAreDecidedInMember :
    ∃ t, exec (.voteReceived (said 4 [0, 1])) (atStage .frame duo) = .next t ∧
      (atStage .frame duo).bus.framing.ackDue = false ∧ t.bus.framing.ackDue = true := ⟨_, rfl, by decide, by decide⟩

theorem witness_CounterMovesAtSelfDelivery :
    (∃ t, exec .selfDelivery (sending (txOf .canvas [0x04, 0] 1 false [] (.sending 49)) duo) = .next t ∧
      t.stream.counter = duo.stream.counter + 1) ∧ (∀ p, Instr.selfDelivery ≠ .powerOn p) ∧
      (∀ p, Instr.selfDelivery ≠ .rstRisingEdge p) ∧ Instr.selfDelivery ≠ .rstAsserted ∧ ∃ t, exec .rstAsserted duo = .next t :=
  ⟨⟨_, rfl, by decide⟩, nofun, nofun, nofun, _, rfl⟩

theorem witness_SoftResetClearsEveryBlock :
    (opened fresh).portOpen ∧ (opened fresh).bus.tx = none ∧
      (opened (sending (txOf .join [] 1 true [] (.acks 15 [])) fresh)).portOpen ∧
      (opened (sending (txOf .join [] 1 true [] (.acks 15 [])) fresh)).bus.tx =
        some (txOf .join [] 1 true [] (.acks 15 [])) := ⟨⟨rfl, rfl⟩, rfl, ⟨rfl, rfl⟩, rfl⟩

theorem witness_StatusByteAtCsFall : fresh.held = false := rfl

theorem witness_portOpen : (opened fresh).portOpen := ⟨rfl, rfl⟩

theorem witness_FaultyTransactionsRaisePortError : (opened fresh).portOpen ∧ (0x00 : Byte) ∉ knownOpcodes ∧
    (0xFF : Byte) ∉ knownOpcodes ∧ (opened fresh).port.out.length ≤ 0 ∧
    ({ fresh with port := { fresh.port with phase := .waitRise } } : State).held = false ∧
    ({ fresh with port := { fresh.port with phase := .waitRise } } : State).port.phase = .waitRise :=
  ⟨⟨rfl, rfl⟩, by decide, by decide, by decide, rfl, rfl⟩

theorem witness_AssertedResetHoldsThePart :
    fresh.assertReset.held = true ∧ (∀ p, Instr.lineEnd ≠ .powerOn p) ∧ (∀ p, Instr.lineEnd ≠ .rstRisingEdge p) ∧
      Instr.lineEnd ≠ .rstAsserted := ⟨rfl, nofun, nofun, nofun⟩

theorem witness_ReadCommandsLoadTheirResponse : (opened fresh).portOpen := ⟨rfl, rfl⟩

theorem witness_ReadEntryLoadsOneEntry :
    (opened fresh).portOpen ∧ 15 < (16 : Byte).toNat ∧ (opened fresh).watch[(3 : Byte).toNat]? = some WatchEntry.reset ∧
      (opened fresh).watch.length ≤ (4 : Byte).toNat := ⟨⟨rfl, rfl⟩, by decide, by decide, by decide⟩

theorem witness_PostGetsOneResult :
    (opened fresh).portOpen ∧ recordLength [0x03, 0, 1] = none ∧ recordLength [0x03, 0, 1, 0, 9] = some 4 :=
  ⟨⟨rfl, rfl⟩, by decide, by decide⟩

theorem witness_FlagsMaskAndIrq : (opened fresh).portOpen := ⟨rfl, rfl⟩

theorem witness_SettingsAreTakenOrRefused :
    (opened fresh).portOpen ∧ (opened fresh).port.mark = none ∧
      (opened { fresh with port := { fresh.port with mark := some { band := 5, column := 143 } } }).portOpen ∧
      (opened { fresh with port := { fresh.port with mark := some { band := 5, column := 143 } } }).port.mark =
        some { band := 5, column := 143 } := ⟨⟨rfl, rfl⟩, rfl, ⟨rfl, rfl⟩, rfl⟩

theorem witness_WriteOverlayStoresAtCursor :
    (opened fresh).portOpen ∧ (opened fresh).port.overlay.wf = true ∧ (opened fresh).port.cursor.inRange ∧
      ({ fresh with port := { fresh.port with phase := .writing } } : State).held = false ∧
      ({ fresh with port := { fresh.port with phase := .writing } } : State).port.phase = .writing ∧
      ∃ t, exec (.writeOverlay [1]) (opened fresh) = .next t := ⟨⟨rfl, rfl⟩, rfl, ⟨by decide, by decide⟩, rfl, rfl, _, rfl⟩

theorem witness_ReadOverlayAdvancesCursor :
    (opened fresh).portOpen ∧ (opened fresh).port.cursor.inRange ∧ (opened fresh).port.mark = none ∧
      (opened { fresh with port := { fresh.port with mark := some { band := 0, column := 143 } } }).port.mark ≠ none ∧
      ∃ t, exec (.readOverlay 1) (opened fresh) = .next t := ⟨⟨rfl, rfl⟩, ⟨by decide, by decide⟩, rfl, by decide, _, rfl⟩

theorem witness_ArbiterChoosesLowestClass :
    (let s : State := { duo with barrier := { duo.barrier with slot := some 1 } }
     s.members.station = .member ∧ s.barrier.slot = some 1) ∧
    (let s := duo.setOutbox [strip1]
     s.barrier.slot = none ∧ s.edge.outbox = strip1 :: [] ∧ s.inRoster strip1.target = true) ∧
    (let s : State := { duo with stream := { duo.stream with outbound := [[0x04, 0]] } }
     s.edge.outbox = [] ∧ s.stream.outbound = [0x04, 0] :: [] ∧ s.stream.inbound.length < 16) ∧
    (let s : State := { duo with members := { duo.members with hello := some .beacon } }
     s.stream.outbound = [] ∧ s.members.hello = some .beacon ∧ s.raster.history = []) ∧
    (let s : State := { duo with
        members := { duo.members with hello := some .beacon }
        raster := { duo.raster with history := [{ epoch := 0, digest := 9, complete := true }] } }
     s.members.hello = some .beacon ∧ s.raster.history = [] ++ { epoch := 0, digest := 9, complete := true } :: [] ∧
      s.barrier.committed = 0) ∧
    (inState .joining fresh).members.station = .joining ∧ (inState .outOfStep fresh).members.station = .outOfStep ∧
    (let s := duo.setOutbox [{ strip1 with target := 2 }]
     s.barrier.slot = none ∧ s.stream.outbound = [] ∧ s.inRoster 2 = false ∧ s.members.hello ≠ some .beacon ∧ s.candidate = none) ∧
    (inState .joining fresh).members.hello ≠ some .join ∧ (inState .outOfStep fresh).members.hello ≠ some .leave ∧
    fresh.members.station = .listening := by decide

/-- A line that has been idle for 11 bit times. -/
def idle11 (s : State) : State := s.setFraming (Framing.reset.toIdle 11 11)

/-- Station 0 with a JOIN pending on an idle line. -/
def joiner : State := { idle11 (inState .joining fresh) with members := { (inState .joining fresh).members with hello := some .join } }

/-- Station 0 in MEMBER on an idle line, a strip for a station outside the roster at the head of its outbox, and an outbound queue. -/
def strayHead (outbound : List (List Byte)) : State :=
  let s := idle11 (duo.setOutbox [{ strip1 with target := 2 }])
  { s with stream := { s.stream with outbound := outbound } }

/-- 3.4, 3.6: with no eligible candidate a CONTEND changes nothing; with one, the head is discarded and the CANVAS is sent. -/
theorem test_contend_outbox_check :
    exec (.contend []) (strayHead []) = .next (strayHead []) ∧
    ∃ t, exec (.contend []) (strayHead [presentBytes false]) = .next t ∧ t.edge.outbox = [] ∧ t.flagSet .edgeLost = true ∧
      t.bus.tx.map (·.owner) = some .canvas := ⟨rfl, _, rfl, by decide, by decide, by decide⟩

theorem witness_ContentionGoesToTheLowest :
    (joiner.held = false ∧ joiner.bus.tx = none ∧ joiner.bus.framing.stage = .idle ∧
      joiner.bus.framing.requiredGap ≤ joiner.bus.framing.gap ∧ joiner.candidate.isSome = true) ∧
    joiner.outboxSettled ∧ ((idle11 fresh).bus.framing.requiredGap ≤ (idle11 fresh).bus.framing.gap ∧
      (idle11 fresh).candidate = none) ∧ (idle11 fresh).outboxSettled ∧
    (joiner.setFraming (Framing.reset.toIdle 10 11)).bus.framing.gap < 11 ∧
    (∀ x, joiner.candidate = some x → joiner.arbitration x = 48 ∧ (∀ r ∈ [(49 : BitVec 6)], (joiner.arbitration x).toNat ≤ r.toNat) ∧
      ∃ r ∈ [(33 : BitVec 6)], r.toNat < (joiner.arbitration x).toNat) ∧
    (let s := strayHead [presentBytes false]
     s.held = false ∧ s.bus.tx = none ∧ s.bus.framing.stage = .idle ∧ s.bus.framing.requiredGap ≤ s.bus.framing.gap ∧
      s.candidate.isSome = true ∧ s.recheckOutbox.candidate.isSome = true) := by
  refine ⟨by decide, ⟨nofun, nofun⟩, by decide, ⟨nofun, nofun⟩, by decide, ?_, by decide⟩
  intro x hx
  simp only [show joiner.candidate = some (Txn.fresh .join 255 [2, 0x21, 0, 0, 0, 0]) from by decide, Option.some.injEq] at hx
  subst hx
  decide

theorem witness_OwnRecordIsSelfDelivered :
    let x := txOf .canvas (presentBytes false) 1 false [] (.sending 57)
    let s := sending x duo
    s.held = false ∧ s.bus.tx = some x ∧ x.phase = .sending 57 ∧ x.owner = .canvas ∧ x.crcDone = false ∧
      (working (recordOf 1 5 (fillBytes 0 0) none) .applying s).raster.engine ≠ .idle := by decide

theorem witness_AckFieldCompletesRepeatsOrExhausts :
    let x (a : Nat) := txOf (.edge 1) [] a true [] (.acks 15 [])
    let s := sending (x 7) duo
    s.held = false ∧ s.bus.tx = some (x 7) ∧ (x 7).phase = .acks 15 [] ∧ (x 7).attempts < 8 ∧ 8 ≤ (x 8).attempts ∧
      (sending (x 8) duo).bus.tx = some (x 8) := by decide

theorem witness_MismatchBreaksAndAborts :
    let s (p : TxPhase) := sending (txOf .canvas [0x04, 0] 1 false [] p) duo
    (s (.sending 57)).held = false ∧ (∀ p : TxPhase, (s p).bus.tx = some (txOf .canvas [0x04, 0] 1 false [] p)) ∧
      (txOf .canvas [0x04, 0] 1 false [] (.sending 57)).phase = .sending 57 ∧
      (txOf .canvas [0x04, 0] 1 false [] (.closing 6 true)).phase = .closing 6 true ∧
      (txOf .canvas [0x04, 0] 1 false [] (.breaking 0 1 false)).phase = .breaking 0 1 false ∧
      (txOf .canvas [0x04, 0] 1 false [] (.breaking 0 1 true)).phase = .breaking 0 1 true ∧
      (s (.breaking 0 1 false)).bus.aborts < 3 := ⟨rfl, fun _ => rfl, rfl, rfl, rfl, rfl, by decide⟩

/-- What waits when a station leaves MEMBER: strips in the outbox, a wait for a strip, a capture that waits, a barrier. -/
def queued (s : State) : State := s.setOutbox [strip1]
def awaiting (st : ShiftStep) (s : State) : State := s.setShift (some (shiftAt .left 1 true st none))
def presenting (copy : Bool) (s : State) : State :=
  let s := working (recordOf 1 4 (presentBytes copy) (some 1)) .awaitBarrier s
  { s with barrier := { s.barrier with pending := some 1 } }

theorem witness_waits (s : State) (h : s.barrier.pending = none) (h' : s.edge.shift = none) (hs : s.straps = wall) :
    (queued s).edge.outbox ≠ [] ∧ (∀ st, ∃ x, (awaiting st s).edge.shift = some x ∧ x.step = st ∧ (awaiting st s).barrier.pending = none) ∧
      ∀ copy, ∃ r, (presenting copy s).barrier.pending = some 1 ∧ (presenting copy s).raster.engine = .awaitBarrier ∧
        (presenting copy s).edge.shift = none ∧ (presenting copy s).stream.inbound = r :: [] ∧
        parseOp (presenting copy s).straps r.bytes = some (.present copy) :=
  ⟨nofun, fun _ => ⟨_, rfl, rfl, h⟩, fun copy => ⟨_, rfl, rfl, h', rfl, by
    show parseOp s.straps (presentBytes copy) = _
    rw [hs]; cases copy <;> decide⟩⟩

theorem witness_FourthAbortEntersBusFault :
    let x := txOf .join [] 1 true [] (.breaking 0 1 false)
    let s : State := { sending x duo with bus := { (sending x duo).bus with aborts := 3 } }
    let y := txOf (.vote 1) [0, 1] 1 true [] (.breaking 0 1 false)
    let z := txOf (.edge 1) [] 1 true [] (.breaking 0 1 false)
    let w : State := { duo with peers := duo.peers.set 1 { partner with voted := some 0 }
                                barrier := { duo.barrier with pending := some 1, slot := some 1 } }
    s.held = false ∧ s.bus.tx = some x ∧ x.phase = .breaking 0 1 false ∧ 3 ≤ s.bus.aborts ∧ x.crcDone = true ∧ x.owner = .join ∧
      (sending y duo).bus.tx = some y ∧ y.owner = .vote 1 ∧ y.crcDone = true ∧ (1 : Station) ∉ y.acked ∧ duo.barrier.pending = none ∧
      w.inRoster 1 = true ∧ w.barrier.pending = some 1 ∧ w.barrier.slot = some 1 ∧ epochAtOrAfter 0 1 = false ∧
      z.owner = .edge 1 ∧ z.crcDone = true ∧ (1 : Station) ∉ z.acked ∧ duo.members.station ≠ .outOfStep ∧
      (let a := txOf (.edge 1) [] 1 false [] (.breaking 0 1 false)
       (sending a (queued duo)).bus.tx = some a ∧ (sending a (queued duo)).edge.outbox ≠ [] ∧ a.crcDone = false) ∧
      s.barrier.pending = none ∧ s.edge.shift = none ∧ s.straps = wall := by decide

theorem witness_CanvasTransactionLeavesItsQueue :
    let x := txOf .canvas [0x04, 0] 8 true [] (.closing 6 false)
    let y := txOf .canvas [0x04, 0] 1 true [1] (.breaking 0 1 false)
    (sending x duo).bus.tx = some x ∧ x.owner = .canvas ∧ x.outcome = some (some .exhausted) ∧
      (duo.inRoster 1 = true ∧ (1 : Station) ∉ x.acked) ∧ duo.peers.length = 16 ∧
      (sending y duo).bus.tx = some y ∧ y.outcome = some (some .abortedAfterCrc) ∧ (sending y duo).bus.aborts < 3 ∧
      (∀ n, duo.inRoster n = true → n ∈ y.acked) ∧
      (txOf .canvas [0x04, 0] 1 true [] (.closing 6 true)).outcome = some (some .complete) := by decide

theorem witness_OwnVoteCountsAtTransactionEnd :
    let x := txOf (.vote 1) [0, 1] 1 true [1] (.closing 6 true)
    let s := sending x duo
    let w (v : Epoch) : State := { s with
      barrier := { s.barrier with pending := some 1, slot := some 1, voted := 1 }
      peers := s.peers.set 1 { partner with voted := some v } }
    s.held = false ∧ s.bus.tx = some x ∧ x.owner = .vote 1 ∧ x.outcome = some (some .complete) ∧ s.barrier.pending = none ∧
      (w 1).bus.tx = some x ∧ (w 1).barrier.pending = some 1 ∧ (w 1).voteDone 1 ∧ ¬ (w 0).voteDone 1 ∧
      (txOf (.vote 1) [0, 1] 8 true [] (.closing 6 false)).outcome = some (some .exhausted) ∧ duo.peers.length = 16 ∧
      duo.inRoster 1 = true := by
  simp only [← commitReady_iff]
  decide

theorem witness_EdgeAndBeaconTransactionsEnd :
    let x := txOf (.edge 1) [] 8 true [] (.closing 6 false)
    let y := txOf .beacon [] 1 true [] (.breaking 0 1 false)
    (sending x duo).held = false ∧ (sending x duo).bus.tx = some x ∧ x.outcome = some (some .exhausted) ∧
      (sending y duo).bus.tx = some y ∧ y.outcome = some (some .abortedAfterCrc) ∧ (sending y duo).bus.aborts < 3 ∧
      x.owner = .edge 1 ∧ y.owner = .beacon := by decide

theorem witness_JoinEndsInMemberLeaveInListening :
    let x := txOf .join [] 8 true [] (.closing 6 false)
    let y := txOf .leave [] 1 true [] (.closing 6 true)
    (sending x (inState .joining duo)).held = false ∧ (sending x (inState .joining duo)).bus.tx = some x ∧
      x.outcome = some (some .exhausted) ∧ duo.peers.length = 16 ∧ x.owner = .join ∧
      (sending y (inState .outOfStep duo)).bus.tx = some y ∧ y.outcome = some (some .complete) ∧ y.owner = .leave := by decide

/-- The member that follows a message of its partner. -/
def hearing : State := atStage .frame duo

theorem hearing_memberHears (q : Byte) (payload : List Byte) (h : payload.length ≤ 160) : hearing.memberHears (said q payload) :=
  ⟨⟨rfl, rfl, .inl rfl⟩, rfl, h, (by decide : (1 : Station) ≠ 0), (by decide : hearing.isForeign 1 = false)⟩

theorem witness_CanvasIsTakenOrRefused :
    hearing.memberHears (said 5 (presentBytes false)) ∧ (hearing.peer (said 5 []).originator).expected = some (said 5 []).seq ∧
      hearing.stream.inbound.length < 16 ∧ (hearing.peer (said 4 []).originator).expected = some ((said 4 []).seq + 1) ∧
      16 ≤ (List.replicate 16 (recordOf 1 4 [] none)).length ∧
      (working (recordOf 1 4 (fillBytes 0 0) none) .applying hearing).raster.engine ≠ .idle ∧
      (State.peer { hearing with peers := hearing.peers.set 1 { partner with expected := none } } 1).expected = none :=
  ⟨hearing_memberHears _ _ (by decide), by decide, by decide, by decide, by decide, by decide, by decide⟩

theorem witness_GapTakesTheStationOutOfStep :
    hearing.memberHears (said 6 [0]) ∧ (hearing.peer (said 6 [0]).originator).expected = some 5 ∧ (said 6 [0]).seq ≠ 5 - 1 ∧
      (said 6 [0]).seq ≠ 5 ∧ parseHello [0] = none ∧
      parseHello [3, 0x21, 0, 0, 0, 0, 0, 0, 0, 0, 0, 0, 1] = some (.beacon hearing.straps.geometryByte 0 0 0 0 true) ∧
      hearing.memberHears (said 6 [4, 0x21]) ∧ parseHello [4, 0x21] = some (.leave hearing.straps.geometryByte) ∧
      hearing.inRoster 1 = true ∧ messageOf (.edgeReceived (said 6 [0])) = some (.edge, said 6 [0]) ∧
      (∀ s ∈ [queued hearing, awaiting .await hearing, awaiting .capture hearing, presenting true hearing, presenting false hearing],
        s.memberHears (said 6 [0]) ∧ (s.peer 1).expected = some 5) ∧
      hearing.barrier.pending = none ∧ hearing.edge.shift = none ∧ hearing.straps = wall :=
  ⟨hearing_memberHears _ _ (by decide), by decide, by decide, by decide, by decide, by decide,
    hearing_memberHears _ _ (by decide), by decide, by decide, rfl, by unfold State.memberHears State.follows; decide, rfl, rfl, rfl⟩

/-- 2.6, 4.4, 6.4, 7.5: at a gap, a PRESENT held in AWAIT_BARRIER commits; a wait for a strip ends in a fill of 0; a strip is lost. -/
theorem test_gap_ends_waits :
    (∃ t, exec (.edgeReceived (said 6 [0])) (presenting false hearing) = .next t ∧ t.barrier.committed = 1 ∧
      t.flagSet .commit = true ∧ t.raster.engine = .idle) ∧
    (∃ t, exec (.edgeReceived (said 6 [0])) (awaiting .await hearing) = .next t ∧ t.flagSet .edgeTimeout = true ∧
      t.edge.shift = some (shiftAt .left 1 true .fill none)) ∧
    (∃ t, exec (.edgeReceived (said 6 [0])) (queued hearing) = .next t ∧ t.flagSet .edgeLost = true ∧ t.edge.outbox = []) :=
  ⟨⟨_, rfl, by decide, by decide, by decide⟩, ⟨_, rfl, by decide, by decide⟩, ⟨_, rfl, by decide, by decide⟩⟩

/-- The same station still listening. -/
def listener : State := inState .listening hearing

theorem listener_observerHears (q : Byte) (payload : List Byte) (h : payload.length ≤ 160) :
    listener.observerHears (said q payload) := ⟨⟨rfl, rfl, .inl rfl⟩, .inl rfl, h, (by decide : (1 : Station) ≠ 0), (by decide : listener.isForeign 1 = false)⟩

theorem witness_ObserversFollowTheStream :
    listener.observerHears (said 9 (bytes16 3)) ∧ listener.observerHears (said 9 [0]) ∧
      ((said 9 [0]).payload.length ≠ 2) ∧ parseHello (said 9 [0]).payload = none ∧ (listener.peer 1).expected.any (fun e => decide ((9 : Byte) ≠ e ∧ (9 : Byte) ≠ e - 1)) = true :=
  ⟨listener_observerHears _ _ (by decide), listener_observerHears _ _ (by decide), by decide, by decide, by decide⟩

theorem witness_VoteWaitsForTheLineEnd :
    hearing.memberHears (said 4 (bytes16 7)) ∧ (hearing.peer 1).expected = some ((4 : Byte) + 1) ∧
      (said 4 (bytes16 7)).payload = bytes16 7 ∧ hearing.memberHears (said 4 [0]) ∧ (said 4 [0]).payload.length ≠ 2 :=
  ⟨hearing_memberHears _ _ (by decide), by decide, rfl, hearing_memberHears _ _ (by decide), by decide⟩

/-- A vote of station 1 for 1 that waits while a barrier for 1 is pending. -/
def waiting (st : Stage) (v : Epoch) : State :=
  let s := atStage st duo
  { s with barrier := { s.barrier with pending := some 1, voted := v, pendingVote := some (1, 1) } }

theorem witness_LineRowsMoveTheStage :
    (∀ st ∈ [Stage.ack, .ending, .break, .unsynced, .frame, .idle], (atStage st duo).held = false ∧ (atStage st duo).bus.tx = none ∧
      (atStage st duo).bus.framing.stage = st ∧ (atStage st duo).barrier.pendingVote = none ∧
      (waiting st 1).bus.framing.stage = st ∧ (waiting st 1).barrier.pendingVote = some (1, 1)) ∧
    (∀ due ∈ [true, false], ∃ s, s = duo.setFraming { Framing.reset with stage := .ack, ackDue := due } ∧ s.held = false ∧
      s.bus.tx = none ∧ s.members.station ≠ .strapFault ∧ s.members.station ≠ .busFault ∧ s.bus.framing.ackDue = due ∧
      s.bus.framing.position ≤ s.straps.n.val) ∧
    160 < (161 : Byte).toNat ∧ (160 : Byte).toNat ≤ 160 ∧ (List.replicate 18 false).length = 18 ∧ (waiting .ending 1).barrier.pending = some 1 ∧
    State.voteDone { waiting .ending 1 with peers := duo.peers.set 1 { partner with voted := some 1 } } 1 ∧
    ¬ State.voteDone { waiting .ending 0 with peers := duo.peers.set 1 { partner with voted := some 1 } } 1 := by
  simp only [← commitReady_iff, exists_eq_left]
  decide

/-- The EDGE of strip (1, 5), one column LEFT, for station 0. -/
def edge0 (k : Byte) : List Byte := [1, 5, 0, k, 0] ++ List.replicate (6 * k.toNat) 7

/-- Its strip. -/
def payload0 : EdgePayload := { originator := 1, seq := 5, direction := .left, k := 1, target := 0, data := List.replicate 6 7 }

/-- The inbox entry of that strip. -/
def entry0 (k : Nat) : InboxEntry := { originator := 1, seq := 5, direction := .left, k := k, data := List.replicate 6 7 }

theorem witness_StripIsJudgedByTheFirstCase :
    hearing.memberHears (said 4 (edge0 1)) ∧ (hearing.peer 1).expected = some ((4 : Byte) + 1) ∧ parseEdge [0] = none ∧
      parseEdge (edge0 1) = some payload0 ∧ payload0.target = hearing.straps.n ∧
      parseEdge [1, 5, 0, 1, 1, 0, 0, 0, 0, 0, 0] = some { payload0 with target := 1, data := List.replicate 6 0 } ∧
      ((hearing.peer 1).applied = none) ∧ seqAfter 5 5 = false ∧ seqAfter 5 4 = true ∧
      (∀ st ∈ [ShiftStep.capture, .move, .await, .fill],
        (hearing.setShift (some (shiftAt .left 1 true st none))).edge.shift = some (shiftAt .left 1 true st none)) ∧
      (shiftAt .left 1 true .move none).originator = payload0.originator ∧ (shiftAt .left 1 true .move none).seq = payload0.seq ∧
      (shiftAt .left 2 true .move none).k ≠ payload0.k ∧ (shiftAt .left 1 true .move (some [])).strip ≠ none ∧
      hearing.edge.inbox = [] ∧ hearing.edge.shift = none ∧
      (hearing.setInbox [entry0 1]).edge.inbox = [] ++ entry0 1 :: [] ∧ (entry0 2).k ≠ payload0.k ∧
      2 ≤ [entry0 1, entry0 1].length ∧ (∀ f ∈ [{ entry0 1 with seq := 6 }, { entry0 1 with seq := 7 }], ¬ (f.originator = 1 ∧ f.seq = 5)) :=
  ⟨hearing_memberHears _ _ (by decide), by decide⟩

/-- A BEACON of station 1 with S 0, V 0, C 0, digest 9, complete. -/
def beacon1 (s : Byte) : List Byte := [3, 0x21, 0, s, 0, 0, 0, 0, 0, 0, 0, 9, 1]

theorem witness_BeaconIsComparedOrObserved :
    hearing.memberHears (said 4 (beacon1 0)) ∧ (hearing.peer 1).expected = some ((4 : Byte) + 1) ∧
      parseHello (beacon1 0) = some (.beacon hearing.straps.geometryByte 0 0 0 9 true) ∧ hearing.inRoster 1 = true ∧
      parseHello (beacon1 1) = some (.beacon hearing.straps.geometryByte 1 0 0 9 true) ∧ hearing.stream.epoch = 0 ∧
      hearing.members.divergence = none ∧ lookupHistory hearing.raster.history 0 = none ∧
      lookupHistory [{ epoch := 0, digest := 8, complete := true }] 0 = some { epoch := 0, digest := 8, complete := true } ∧
      State.inRoster { hearing with peers := fresh.peers } 1 = false ∧ listener.observerHears (said 9 (beacon1 1)) ∧
      listener.nothingWaits :=
  ⟨hearing_memberHears _ _ (by decide), by decide, by decide, by decide, by decide, by decide, by decide, by decide, by decide,
    by decide, listener_observerHears _ _ (by decide), rfl, nofun, nofun⟩

theorem witness_JoinIsAdmittedRefusedOrObserved :
    hearing.follows ∧ (said 255 []).originator ≠ hearing.straps.n ∧ hearing.members.station = .member ∧ hearing.stream.epoch = 0 ∧
      parseHello [2, 0x21, 0, 0, 0, 0] = some (.join hearing.straps.geometryByte 0) ∧
      parseHello [2, 0x21, 0, 1, 0, 1] = some (.join hearing.straps.geometryByte 1) ∧
      listener.members.station = .listening ∧ listener.nothingWaits ∧ listener.follows ∧
      (inState .outOfStep hearing).members.station = .outOfStep ∧ (inState .outOfStep hearing).follows ∧
      hearing.inRoster 1 = true ∧ hearing.barrier.pending = none ∧ listener.inRoster 1 = true ∧
      State.inRoster { hearing with peers := fresh.peers } 1 = false :=
  ⟨⟨rfl, rfl, .inl rfl⟩, by decide, rfl, rfl, by decide, by decide, rfl, ⟨rfl, nofun, nofun⟩, ⟨rfl, rfl, .inl rfl⟩, rfl,
    ⟨rfl, rfl, .inl rfl⟩, by decide, rfl, by decide, by decide⟩

/-- The same with a barrier pending, its condition held and not held after the JOIN. -/
theorem witness_JoinIsAdmittedRefusedOrObserved_barrier :
    (∀ v : Epoch, (waiting .frame v).follows ∧ (waiting .frame v).barrier.pending = some 1 ∧ (waiting .frame v).stream.epoch = 0 ∧
      (waiting .frame v).members.station = .member) ∧ (waiting .frame 0).inRoster 1 = true ∧ ¬ (waiting .frame 0).voteDone 1 ∧
      State.voteDone { waiting .frame 1 with peers := duo.peers.set 1 { partner with voted := some 1 } } 1 := by
  refine ⟨fun v => ⟨⟨rfl, rfl, .inl rfl⟩, rfl, rfl, rfl⟩, by decide, ?_, ?_⟩ <;> rw [← commitReady_iff] <;> decide

/-- 3.6, 5.2, 5.4: a JOIN of a roster peer is no roster change, so an outbox head for a station outside the roster stays; a JOIN of
another peer is one, and the head is discarded. -/
theorem test_join_outbox_check :
    let s := hearing.setOutbox [{ strip1 with target := 2 }]
    (∃ t, exec (.joinReceived (said 255 [2, 0x21, 0, 0, 0, 0])) s = .next t ∧ t.flagSet .peerJoined = true ∧
      t.flagSet .edgeLost = false ∧ t.edge.outbox.length = 1) ∧
    (∃ t, exec (.joinReceived (said 255 [2, 0x21, 0, 0, 0, 0])) { s with peers := fresh.peers } = .next t ∧
      t.flagSet .peerJoined = true ∧ t.flagSet .edgeLost = true ∧ t.edge.outbox = []) :=
  ⟨⟨_, rfl, by decide, by decide, by decide⟩, ⟨_, rfl, by decide, by decide, by decide⟩⟩

theorem witness_LeaveAndForeignGeometry :
    hearing.follows ∧ (said 4 [4, 0x21]).originator ≠ hearing.straps.n ∧ hearing.inRoster 1 = true ∧
      parseHello [4, 0x21] = some (.leave hearing.straps.geometryByte) ∧ hearing.isForeign 1 = false ∧
      hearing.members.station = .member ∧ (hearing.peer 1).expected = some ((4 : Byte) + 1) ∧
      parseHello [4, 0x11] = some (.leave 0x11) ∧ (0x11 : Byte) ≠ hearing.straps.geometryByte ∧
      (State.peer { hearing with peers := fresh.peers } 1).silence = none :=
  ⟨⟨rfl, rfl, .inl rfl⟩, by decide, by decide, by decide, by decide, rfl, by decide, by decide, by decide, by decide⟩

theorem witness_MessagesWithoutEffect :
    (inState .strapFault hearing).follows ∧ (inState .busFault hearing).follows ∧ (inState .outOfStep hearing).follows ∧
      messageOf (.voteReceived (said 4 [])) = some (.vote, said 4 []) ∧
      messageOf (.joinReceived (said 4 [2])) = some (.hello, said 4 [2]) ∧ parseHello [2] = none ∧
      hearing.members.station = .member ∧ (hearing.peer 1).expected = some ((4 : Byte) + 1) ∧ hearing.isForeign 1 = false ∧
      (inState .outOfStep hearing).isForeign 1 = false ∧
      (({ said 4 [] with originator := 0 } : Received).originator = hearing.straps.n) ∧
      (∀ s ∈ [queued hearing, awaiting .await hearing, awaiting .capture hearing, presenting true hearing, presenting false hearing],
        s.follows ∧ s.members.station = .member ∧ s.straps = wall) ∧
      State.isForeign { hearing with peers := duo.peers.set 1 { partner with state := .foreign } } 1 = true :=
  ⟨⟨rfl, rfl, .inl rfl⟩, ⟨rfl, rfl, .inl rfl⟩, ⟨rfl, rfl, .inl rfl⟩, rfl, rfl, by decide, rfl, by decide, by decide, by decide,
    rfl, by unfold State.follows; decide, by decide⟩

theorem witness_RosterChangeFreesWhatWaits :
    duo.nothingWaits ∧ duo.outboxSettled ∧ (waiting .idle 1).outboxSettled ∧ (waiting .idle 1).barrier.pending = some 1 ∧
      ¬ (waiting .idle 1).voteDone 1 ∧ State.voteDone { waiting .idle 1 with peers := fresh.peers } 1 ∧
      (duo.setOutbox [{ strip1 with target := 2 }]).barrier.pending = none ∧
      (duo.setOutbox [{ strip1 with target := 2 }]).bus.tx = none ∧ (duo.setOutbox [{ strip1 with target := 2 }]).edge.shift = none ∧
      (∀ x, (duo.setShift (some x)).edge.shift = some x) ∧ (shiftAt .left 1 true .capture none).step = .capture ∧
      duo.straps.target .left true = some (1 : Station).val ∧ duo.straps.target .left false = none ∧
      duo.straps.target .up true = some duo.straps.n.val ∧
      ([strip1, strip1].dropWhile fun r => !duo.edgeEligible r).length = 2 ∧
      ([{ strip1 with target := 2 }, strip1].dropWhile fun r => !duo.edgeEligible r).length < 2 :=
  ⟨⟨rfl, nofun, nofun⟩, ⟨nofun, nofun⟩, ⟨nofun, nofun⟩, rfl, by rw [← commitReady_iff]; decide, by rw [← commitReady_iff]; decide,
    rfl, rfl, rfl, fun _ => rfl, rfl, by decide, by decide, by decide, by decide, by decide⟩

theorem witness_TimersEnd :
    fresh.held = false ∧ fresh.members.station = .listening ∧ fresh.members.listenTimer = some 0 ∧ fresh.outboxSettled ∧
      (let s : State := { duo with members := { duo.members with beaconTimer := some 0 } }
       s.members.station = .member ∧ s.members.beaconTimer = some 0) ∧
      duo.inRoster 1 = true ∧ (duo.peer 1).silence = some 0 ∧
      (let s : State := { duo with edge := { duo.edge with timer := some 0, shift := some (shiftAt .left 8 true .await none) } }
       s.edge.timer = some 0 ∧ s.edge.shift = some (shiftAt .left 8 true .await none)) :=
  ⟨rfl, rfl, rfl, ⟨nofun, nofun⟩, by decide, by decide, by decide, by decide⟩

/-- A barrier for 1 pending with its PRESENT at the head. -/
def atBarrier (copy : Bool) : State :=
  let s := working (recordOf 1 5 (presentBytes copy) (some 1)) .awaitBarrier duo
  { s with barrier := { s.barrier with pending := some 1, timer := some 600000 } }

theorem witness_BarrierTimeoutCommits :
    ∀ copy : Bool, (atBarrier copy).held = false ∧ (atBarrier copy).barrier.pending = some 1 ∧
      (atBarrier copy).barrier.timer = some 600000 ∧
      (atBarrier copy).stream.inbound = [recordOf 1 5 (presentBytes copy) (some 1)] ∧
      parseOp (atBarrier copy).straps (presentBytes copy) = some (.present copy) := by decide

theorem witness_RecordIsTakenByItsKind :
    let s (bytes : List Byte) := working (recordOf 1 5 bytes (some 1)) .idle duo
    (s (fillBytes 0 0)).raster.engine = .idle ∧ parseOp wall (fillBytes 0 0) = some (.fill 0 0 3 2 .invert) ∧
      (Op.fill 0 0 3 2 .invert).pixelCount wall ≠ 0 ∧ parseOp wall (fillBytes 200 0) = some (.fill 200 0 3 2 .invert) ∧
      (Op.fill 200 0 3 2 .invert).pixelCount wall = 0 ∧ parseOp wall (presentBytes true) = some (.present true) ∧
      duo.members.station = .member ∧ fresh.members.station ≠ .member ∧
      parseOp wall [0x03, 0, 8, 1] = some (.shift .left 8 true) ∧ wall.target .left true = some 1 ∧ duo.inRoster 1 = true ∧
      wall.target .left false = none ∧ wall.target .up true = some wall.n.val ∧ duo.edge.outbox = [] ∧
      duo.bus.tx = none ∧ fresh.inRoster 1 = false ∧ [strip1].length = 1 ∧ 2 ≤ [strip1, strip1].length ∧
      ([261, 0x1234, 0x5600] : List (BitVec 32)).length = 1 + ([0x12, 0x34, 0x56].length + 1) / 2 ∧
      ({ recordOf 1 5 [] none with malformed := true } : InRecord).malformed = true := by decide

theorem witness_FillAndStripPaintTheirPixels :
    let s (bytes : List Byte) := working (recordOf 1 5 bytes none) .applying duo
    (∀ bytes : List Byte, (s bytes).held = false ∧ (s bytes).raster.engine = .applying ∧ (s bytes).edge.shift = none ∧
      (s bytes).raster.issued = 0 ∧ (s bytes).drawPlane.wf = true) ∧
    parseOp wall (fillBytes 141 46) = some (.fill 141 46 3 2 .invert) ∧ 0 < (Op.fill 141 46 3 2 .invert).pixelCount wall ∧
    parseOp wall [0x02, 0, 143, 47, 3, 1, 0xFF] = some (.strip 143 47 .xor [0xFF]) ∧
    0 < (Op.strip 143 47 .xor [0xFF]).pixelCount wall := ⟨fun _ => ⟨rfl, rfl, rfl, rfl, rfl⟩, by decide⟩

theorem witness_ShiftMovesAndDecidesTheFill :
    (∀ x : Shift, let s := (working (recordOf 1 5 [0x03, 0, 8, 1] none) .applying duo).setShift (some x)
      s.held = false ∧ s.raster.engine = .applying ∧ s.edge.shift = some x ∧ s.raster.issued = 0 ∧ s.drawPlane.wf = true) ∧
    (shiftAt .down 8 true .move none).step = .move ∧ (shiftAt .left 1 true .move none).step = .move ∧
    wall.source .left true ≠ none ∧ wall.source .up false = none ∧ (entry0 1).fits (shiftAt .left 1 true .move none) = true ∧
    [entry0 1].find? (·.fits (shiftAt .left 1 true .move none)) = some (entry0 1) ∧ fresh.edge.inbox = [] ∧
    duo.members.station = .member ∧ (inState .outOfStep duo).members.station ≠ .member ∧
    (shiftAt .left 1 true .move (some (List.replicate 6 7))).strip = some (List.replicate 6 7) :=
  ⟨fun _ => ⟨rfl, rfl, rfl, rfl, rfl⟩, by decide⟩

theorem witness_ShiftFillsTheVacatedPixels :
    ∀ x : Shift, let s := (working (recordOf 1 5 [0x03, 0, 8, 1] none) .applying duo).setShift (some x)
      s.held = false ∧ s.raster.engine = .applying ∧ s.edge.shift = some x ∧ s.raster.issued = 0 ∧ s.drawPlane.wf = true ∧
      s.stream.inbound = [recordOf 1 5 [0x03, 0, 8, 1] none] ∧ (shiftAt .left 8 true .fill (some (List.replicate 48 7))).step = .fill ∧
      1 ≤ (shiftAt .left 8 true .fill (some (List.replicate 48 7))).k ∧ (shiftAt .left 8 true .fill none).k ≤ 8 :=
  fun _ => ⟨rfl, rfl, rfl, rfl, rfl, rfl, rfl, by decide, by decide⟩

theorem witness_WriteLandsAndIsWatched :
    let s := working (recordOf 1 5 (fillBytes 141 46) none) .applying duo
    s.held = false ∧ s.nextWrite = some ({ address := 861, mask := 0x40, value := 0xFF }, 1, 5) ∧ s.drawPlane.wf = true ∧
      861 < 864 := by decide

theorem witness_CopyMakesThePlanesEqual :
    let s := working (recordOf 1 5 (presentBytes true) (some 1)) .copying duo
    s.held = false ∧ s.raster.engine = .copying ∧ s.stream.inbound = [recordOf 1 5 (presentBytes true) (some 1)] ∧
      s.raster.planeA.wf = true ∧ s.raster.planeB.wf = true ∧ ∀ a, a < s.raster.issued → s.drawPlane.read a = s.shownPlane.read a := by
  refine ⟨rfl, rfl, rfl, rfl, rfl, fun a h => absurd h ?_⟩
  exact Nat.not_lt_zero a

theorem witness_RowIsFormedFromBothPlanes :
    fresh.held = false ∧ 1 = (if fresh.scan.row < 47 then fresh.scan.row + 1 else 0) ∧
      (let s : State := { fresh with scan := { fresh.scan with row := 47 } }
       0 = if s.scan.row < 47 then s.scan.row + 1 else 0) ∧
      fresh.port.display.mode = .off ∧
      (let s : State := { fresh with port := { fresh.port with display := { mode := .reverse, combine := .xor, contrast := 15 } } }
       s.port.display.mode ≠ .off) := by decide

end Sys2Proof.Tests
end

section
/-! PROOFS. Canvas operations and the Raster Engine (chapter 2): what power-on and the end of **RST#** leave of the record in
progress, the inbound queue, the applied numbers and the planes. -/

namespace Sys2Proof.Machine

/-! ### The state after power-on and the end of RST# -/

theorem exec_powerOn (pins : StrapPins) (s : State) : exec (.powerOn pins) s = .next (s.coldReset pins) := rfl

theorem exec_rstRisingEdge (pins : StrapPins) (s : State) : exec (.rstRisingEdge pins) s = .next (s.coldReset pins) := rfl

section ColdReset
variable (s : State) (pins : StrapPins)

@[simp] theorem State.coldReset_stream_inbound : (s.coldReset pins).stream.inbound = [] := rfl
@[simp] theorem State.coldReset_peers : (s.coldReset pins).peers = peersAfterReset pins.stn.toFin := rfl
@[simp] theorem State.coldReset_raster_engine : (s.coldReset pins).raster.engine = .idle := rfl
@[simp] theorem State.coldReset_raster_planeA : (s.coldReset pins).raster.planeA = [] := rfl
@[simp] theorem State.coldReset_raster_planeB : (s.coldReset pins).raster.planeB = [] := rfl

end ColdReset

/-- The list of stations holds each one at the place of its number. -/
@[simp] theorem stations_getElem? : ∀ n : Station, stations[n.val]? = some n := by decide

/-- Every one of the 16 entries has its reset values after the resets (R87, R110). -/
theorem State.peer_coldReset (s : State) (pins : StrapPins) (n : Station) :
    (s.coldReset pins).peer n = Peer.reset (n = pins.stn.toFin) := by
  simp [State.peer, peersAfterReset]

@[simp] theorem Peer.reset_applied (own : Bool) : (Peer.reset own).applied = none := rfl

/-- A cleared plane is dark at every pixel (R6, R13). -/
@[simp] theorem Memory.pixel_nil (c r : Nat) : Memory.pixel [] c r = false := by
  simp [Memory.pixel]

/-- Settles O18: both resets end in the one cold-reset state, whose entries and planes the lemmas above read. -/
theorem resetEndsRecordInProgress : Obligations.ResetEndsRecordInProgress := by
  intro pins s
  refine ⟨s.coldReset pins, exec_powerOn pins s, exec_rstRisingEdge pins s, s.coldReset_raster_engine pins,
    s.coldReset_stream_inbound pins, fun n => ?applied, fun c r => ⟨?dark_a, ?dark_b⟩⟩
  case applied => rw [State.peer_coldReset, Peer.reset_applied]
  case dark_a => rw [State.coldReset_raster_planeA, Memory.pixel_nil]
  case dark_b => rw [State.coldReset_raster_planeB, Memory.pixel_nil]

end Sys2Proof.Machine
end

section
/-! PROOFS. Membership and the peer table (chapter 5): the strap record, the peer table and the Membership Unit as power-on and the
end of **RST#** leave them. -/

namespace Sys2Proof.Machine

/-! ### An entry at its reset values -/

section PeerReset
variable (own : Bool)

@[simp] theorem Peer.reset_state : (Peer.reset own).state = if own then .self else .absent := rfl
@[simp] theorem Peer.reset_silence : (Peer.reset own).silence = none := rfl
@[simp] theorem Peer.reset_diverged : (Peer.reset own).diverged = false := rfl

end PeerReset

/-! ### The straps and the Membership Unit after power-on and the end of RST# -/

section ColdReset
variable (s : State) (pins : StrapPins)

theorem State.coldReset_straps :
    (s.coldReset pins).straps =
      { n := pins.stn.toFin, w := pins.tw.toNat + 1, h := pins.th.toNat + 1, fast := pins.rate } := rfl

/-- The Membership Unit after the resets (R86, R110): all but the station state and the listen timer is the same whatever the
straps say. -/
theorem State.coldReset_members :
    (s.coldReset pins).members =
      { station := if (s.coldReset pins).straps.fits then .listening else .strapFault
        listenTimer := if (s.coldReset pins).straps.fits then some 0 else none
        beaconTimer := none, hello := none, divergence := none } := rfl

/-- A station whose number fits its wall enters LISTENING and starts its listen timer; one whose number does not is in
STRAP_FAULT and starts none (R86, R91, R110). -/
theorem State.coldReset_station_listenTimer :
    ((s.coldReset pins).members.station, (s.coldReset pins).members.listenTimer) =
      if (s.coldReset pins).straps.n.val < (s.coldReset pins).straps.w * (s.coldReset pins).straps.h then
        (.listening, some 0) else (.strapFault, none) := by
  rw [State.coldReset_members]
  by_cases hfits : (s.coldReset pins).straps.n.val < (s.coldReset pins).straps.w * (s.coldReset pins).straps.h
  · simp only [Straps.fits, hfits, decide_true, if_true]
  · simp only [Straps.fits, hfits, decide_false, Bool.false_eq_true, if_false]

/-- Each entry after the resets is SELF or ABSENT by its number, with no silence timer and no diverged mark (R87, R110). -/
theorem State.peer_coldReset_membership (n : Station) :
    ((s.coldReset pins).peer n).state = (if n = (s.coldReset pins).straps.n then .self else .absent) ∧
      ((s.coldReset pins).peer n).silence = none ∧ ((s.coldReset pins).peer n).diverged = false := by
  have hentry : (s.coldReset pins).peer n = Peer.reset (n = (s.coldReset pins).straps.n) := s.peer_coldReset pins n
  simp [hentry]

end ColdReset

/-- Settles O19: both resets end in the one cold-reset state, whose straps, entries and Membership Unit the lemmas above read. -/
theorem resetMembership : Obligations.ResetMembership := by
  intro pins s
  have hmembers := s.coldReset_members pins
  refine ⟨s.coldReset pins, exec_powerOn pins s, exec_rstRisingEdge pins s, s.coldReset_straps pins,
    s.peer_coldReset_membership pins, ?divergence, ?hello, ?beacon, s.coldReset_station_listenTimer pins⟩
  case divergence => rw [hmembers]
  case hello => rw [hmembers]
  case beacon => rw [hmembers]

end Sys2Proof.Machine
end

section
/-! PROOFS. What the work of the Raster Engine, the Barrier Unit and the Edge Unit can do to the rest of the part, said once: one
relation, and one lemma for each of their operations. -/

namespace Sys2Proof.Machine

/-! ### Flags -/

theorem Event.bit_getLsbD (e : Event) (i : Nat) : e.bit.getLsbD i = decide (i = e.number) := by
  have hlt : e.number < 16 := by cases e <;> decide
  simp only [Event.bit, BitVec.getLsbD_twoPow]
  by_cases h : e.number = i
  · simp [← h, hlt]
  · simp [h, Ne.symm h]

theorem Event.number_inj {a b : Event} : a.number = b.number ↔ a = b :=
  ⟨fun h => by cases a <;> cases b <;> first | rfl | (exact absurd h (by decide)), fun h => by rw [h]⟩

@[simp] theorem flagSet_raise (s : State) (a b : Event) : (s.raise a).flagSet b = (s.flagSet b || decide (b = a)) := by
  simp [State.flagSet, Event.bit_getLsbD, Event.number_inj]

@[simp] theorem flagSet_raiseIf (s : State) (c : Bool) (a b : Event) :
    (s.raiseIf c a).flagSet b = (s.flagSet b || (c && decide (b = a))) := by
  cases c <;> simp [State.raiseIf]

theorem flagSet_congr {s t : State} (h : t.events = s.events) (e : Event) : t.flagSet e = s.flagSet e := by
  simp [State.flagSet, h]

/-! ### What the engine's work keeps -/

/-- What the work of the engine, the barrier and the edge unit leaves as it is: the line, the station state, the peer entries but for
A, the stream but for records taken off the inbound queue, and every flag but those that it raises itself; the boxes and the history
stay within their places. -/
structure Works (s t : State) : Prop where
  keeps : Keeps s t
  bus : t.bus = s.bus
  members : t.members = { s.members with hello := t.members.hello }
  hello : t.members.hello = s.members.hello ∨
    s.members.station = .outOfStep ∧ t.members.hello = some .leave ∧ t.stream.inbound = []
  peer : ∀ n, t.peer n = { s.peer n with applied := (t.peer n).applied }
  inbound : t.stream.inbound <:+ s.stream.inbound
  stream : t.stream = { s.stream with inbound := t.stream.inbound }
  outbox : s.edge.outbox.length ≤ Config.outboxPlaces → t.edge.outbox.length ≤ Config.outboxPlaces
  inbox : t.edge.inbox.length ≤ s.edge.inbox.length
  history : s.raster.history.length ≤ Config.historyPlaces → t.raster.history.length ≤ Config.historyPlaces
  row : t.scan.row = s.scan.row ∨ t.scan.row = 0
  voted : t.barrier.voted = s.barrier.voted
  late : t.barrier.late = s.barrier.late
  pendingVote : t.barrier.pendingVote = s.barrier.pendingVote
  slot : s.members.station ≠ .member → t.barrier.slot = s.barrier.slot
  shown : t.barrier.shown = s.barrier.shown ∨ t.flagSet .commit = true
  flags : ∀ e, e ≠ .frame → e ≠ .commit → e ≠ .edgeLost → e ≠ .edgeTimeout → t.flagSet e = s.flagSet e

theorem Works.refl (s : State) : Works s s where
  keeps := Keeps.refl s
  bus := rfl
  members := rfl
  hello := .inl rfl
  peer := fun _ => rfl
  inbound := List.suffix_refl _
  stream := rfl
  outbox := fun h => h
  inbox := le_refl _
  history := fun h => h
  row := .inl rfl
  voted := rfl
  late := rfl
  pendingVote := rfl
  slot := fun _ => rfl
  shown := .inl rfl
  flags := fun _ _ _ _ _ => rfl

theorem Works.station {s t : State} (h : Works s t) : t.members.station = s.members.station := by rw [h.members]

theorem Works.trans {s t u : State} (h : Works s t) (k : Works t u) : Works s u where
  keeps := h.keeps.trans k.keeps
  bus := k.bus.trans h.bus
  members := by rw [k.members, h.members]
  hello := by
    rcases k.hello with e | ⟨e, l, i⟩
    · rcases h.hello with e' | ⟨e', l', i'⟩
      · exact .inl (e.trans e')
      · exact .inr ⟨e', e.trans l', List.suffix_nil.mp (i' ▸ k.inbound)⟩
    · exact .inr ⟨h.station ▸ e, l, i⟩
  peer n := by rw [k.peer n, h.peer n]
  inbound := k.inbound.trans h.inbound
  stream := by rw [k.stream, h.stream]
  outbox hs := k.outbox (h.outbox hs)
  inbox := le_trans k.inbox h.inbox
  history hs := k.history (h.history hs)
  row := by
    rcases k.row with e | e
    · rcases h.row with e' | e'
      · exact .inl (e.trans e')
      · exact .inr (e.trans e')
    · exact .inr e
  voted := k.voted.trans h.voted
  late := k.late.trans h.late
  pendingVote := k.pendingVote.trans h.pendingVote
  slot hs := (k.slot (h.station ▸ hs)).trans (h.slot hs)
  shown := by
    rcases k.shown with e | e
    · rcases h.shown with e' | e'
      · exact .inl (e.trans e')
      · exact .inr (k.keeps.flags _ e')
    · exact .inr e
  flags e h1 h2 h3 h4 := (k.flags e h1 h2 h3 h4).trans (h.flags e h1 h2 h3 h4)

variable (s : State)

/-! ### The named updates -/

/-- The Edge Unit, the engine and the Barrier Unit replaced, the boxes and the history within their places. -/
theorem works_inner (e : Edge) (r : Raster) (b : Barrier) (k : Keeps s { s with edge := e, raster := r, barrier := b })
    (ho : s.edge.outbox.length ≤ Config.outboxPlaces → e.outbox.length ≤ Config.outboxPlaces)
    (hi : e.inbox.length ≤ s.edge.inbox.length)
    (hh : s.raster.history.length ≤ Config.historyPlaces → r.history.length ≤ Config.historyPlaces)
    (hb : b.voted = s.barrier.voted ∧ b.late = s.barrier.late ∧ b.pendingVote = s.barrier.pendingVote ∧
      b.shown = s.barrier.shown)
    (hs : s.members.station ≠ .member → b.slot = s.barrier.slot) :
    Works s { s with edge := e, raster := r, barrier := b } :=
  { Works.refl s with
    keeps := k
    outbox := ho
    inbox := hi
    history := hh
    voted := hb.1
    late := hb.2.1
    pendingVote := hb.2.2.1
    slot := hs
    shown := .inl hb.2.2.2 }

theorem works_setShift (x : Option Shift) : Works s (s.setShift x) :=
  works_inner s _ _ _ (keeps_setShift s x) (fun h => h) (le_refl _) (fun h => h) ⟨rfl, rfl, rfl, rfl⟩ fun _ => rfl

theorem works_setEngine (e : EngineState) (i : Nat) : Works s (s.setEngine e i) :=
  works_inner s _ _ _ (keeps_setEngine s e i) (fun h => h) (le_refl _) (fun h => h) ⟨rfl, rfl, rfl, rfl⟩ fun _ => rfl

theorem works_setOutbox (l : List OutboxRecord) (h : s.edge.outbox.length ≤ Config.outboxPlaces → l.length ≤ Config.outboxPlaces) :
    Works s (s.setOutbox l) :=
  works_inner s _ _ _ (keeps_setOutbox s l) h (le_refl _) (fun h => h) ⟨rfl, rfl, rfl, rfl⟩ fun _ => rfl

theorem works_setInbox (l : List InboxEntry) (h : l.length ≤ s.edge.inbox.length) : Works s (s.setInbox l) :=
  works_inner s _ _ _ (keeps_setInbox s l) (fun h => h) h (fun h => h) ⟨rfl, rfl, rfl, rfl⟩ fun _ => rfl

theorem works_edge (e : Edge) (ho : s.edge.outbox.length ≤ Config.outboxPlaces → e.outbox.length ≤ Config.outboxPlaces)
    (hi : e.inbox.length ≤ s.edge.inbox.length) : Works s { s with edge := e } :=
  works_inner s _ _ _ (keeps_edge s e) ho hi (fun h => h) ⟨rfl, rfl, rfl, rfl⟩ fun _ => rfl

theorem works_raise {e : Event} (h : e = .frame ∨ e = .commit ∨ e = .edgeLost ∨ e = .edgeTimeout) : Works s (s.raise e) :=
  { Works.refl s with
    keeps := keeps_raise s e
    shown := .inl rfl
    flags a h1 h2 h3 h4 := by
      have hne : a ≠ e := by rcases h with rfl | rfl | rfl | rfl <;> assumption
      simp [hne] }

theorem works_raiseIf (c : Bool) {e : Event} (h : e = .frame ∨ e = .commit ∨ e = .edgeLost ∨ e = .edgeTimeout) :
    Works s (s.raiseIf c e) := by
  cases c
  · exact Works.refl s
  · exact works_raise s h

/-! ### The Edge Unit -/

theorem works_discardIneligible : Works s s.discardIneligible := by
  unfold State.discardIneligible
  split
  · exact Works.refl s
  · exact (works_setOutbox s _ fun h => (List.length_dropWhile_le _ _).trans h).trans (works_raiseIf _ _ (by simp))

theorem works_tryCapture : Works s s.tryCapture := by
  unfold State.tryCapture
  split
  · split
    · split
      · exact works_setShift s _
      · split
        · exact works_setShift s _
        · split
          · rename_i hroom
            exact (works_setOutbox s _ fun _ => by simp only [List.length_append, List.length_singleton]; omega).trans
              (works_setShift _ _)
          · exact Works.refl s
    · exact Works.refl s
  · exact Works.refl s

theorem works_recheckOutbox : Works s s.recheckOutbox :=
  ((works_discardIneligible s).trans (works_tryCapture _)).trans (works_discardIneligible _)

theorem works_startFill (x : Shift) (d : Option (List Byte)) : Works s (s.startFill x d) :=
  ((works_setShift s _).trans (works_setEngine _ _ _)).trans (works_edge _ _ (fun h => h) (le_refl _))

theorem works_decideFill (x : Shift) : Works s (s.decideFill x) := by
  unfold State.decideFill
  split
  · exact works_startFill s x none
  · split
    · exact works_startFill s x _
    · split
      · exact (works_setInbox s _ (List.length_filter_le _ _)).trans (works_startFill _ x _)
      · split
        · exact ((works_setShift s _).trans (works_setEngine _ _ _)).trans (works_edge _ _ (fun h => h) (le_refl _))
        · exact (works_startFill s x none).trans (works_raise _ (by simp))

theorem works_endEdgeWait : Works s s.endEdgeWait := by
  unfold State.endEdgeWait
  split
  · split
    · exact (works_startFill s _ none).trans (works_raise _ (by simp))
    · exact Works.refl s
  · exact Works.refl s

/-! ### The Raster Engine and the Barrier Unit -/

theorem works_leaveIfDrained : Works s s.leaveIfDrained := by
  unfold State.leaveIfDrained
  split
  · rename_i h
    exact
    { Works.refl s with
      keeps := keeps_members s _
      members := rfl
      hello := .inr ⟨h.1, rfl, h.2⟩ }
  · exact Works.refl s

/-- A record taken off the inbound queue, A of its originator set. -/
theorem works_takenOff (r : InRecord) (rest : List InRecord) (h : s.stream.inbound = r :: rest) :
    Works s { s.setPeer r.originator (fun p => { p with applied := some r.seq }) with
      stream := { s.stream with inbound := rest } } := by
  have hp (n : Station) : ((s.setPeer r.originator fun p => { p with applied := some r.seq }).peer n) =
      { s.peer n with applied := ((s.setPeer r.originator fun p => { p with applied := some r.seq }).peer n).applied } := by
    rw [peer_setPeer]
    split <;> rfl
  exact
    { Works.refl s with
      keeps := (keeps_setPeer s r.originator _).trans (keeps_stream _ _ rfl)
      hello := .inl rfl
      stream := rfl
      shown := .inl rfl
      peer := hp
      inbound := h ▸ List.suffix_cons r rest }

theorem works_complete : Works s s.complete := by
  unfold State.complete
  split
  · exact Works.refl s
  · rename_i r rest h
    refine Works.trans ?_ (works_leaveIfDrained _)
    refine Works.trans ?_ (works_setInbox _ _ (List.length_filter_le _ _))
    refine Works.trans ?_ (works_setShift _ _)
    exact (works_takenOff s r rest h).trans (works_setEngine _ _ _)

/-- The state of a commit before its PRESENT is completed or copied: roles exchanged, C set, the frame restarted, COMMIT and FRAME
raised (R123, R150). -/
def State.exchanged (t : Epoch) : State :=
  ({ s with
      barrier := { s.barrier with shown := s.barrier.shown.other, committed := t, timer := none, pending := none } }.startFrame
    0).raise .commit

theorem commitFor_eq (t : Epoch) :
    s.commitFor t = if s.headCopies then (s.exchanged t).setEngine .copying 0 else (s.exchanged t).complete := rfl

theorem flagSet_exchanged_commit (t : Epoch) : (s.exchanged t).flagSet .commit = true := by
  simp [State.exchanged]

theorem works_exchanged (t : Epoch) : Works s (s.exchanged t) :=
  { Works.refl s with
    keeps := ((keeps_barrier s _).trans (keeps_startFrame _ 0)).trans (keeps_raise _ .commit)
    row := .inr rfl
    shown := .inr (flagSet_exchanged_commit s t)
    flags a h1 h2 _ _ := by
      rw [State.exchanged, State.startFrame, flagSet_raise, flagSet_raise]
      simp [h1, h2, State.flagSet] }

theorem works_commitFor (t : Epoch) : Works s (s.commitFor t) := by
  rw [commitFor_eq]
  split
  · exact (works_exchanged s t).trans (works_setEngine _ _ _)
  · exact (works_exchanged s t).trans (works_complete _)

theorem works_beginShift (r : InRecord) (d : Direction) (k : Nat) (rotate : Bool) : Works s (s.beginShift r d k rotate) := by
  have h := ((works_setShift s (some ⟨r.originator, r.seq, d, k, rotate, .capture, none⟩)).trans
    (works_setEngine _ .applying 0)).trans (works_tryCapture _)
  unfold State.beginShift
  dsimp only
  split
  · exact h.trans (works_discardIneligible _)
  · exact h

theorem appendHistory_length_le (l : List HistoryEntry) (e : HistoryEntry) (h : l.length ≤ Config.historyPlaces) :
    (appendHistory l e).length ≤ Config.historyPlaces := by
  unfold appendHistory
  by_cases hfull : Config.historyPlaces ≤ l.length
  · rw [if_pos hfull, List.length_append, List.length_drop, List.length_singleton]
    simp only [Config.historyPlaces] at h ⊢
    omega
  · rw [if_neg hfull, List.length_append, List.length_singleton]
    omega

theorem works_recordDigest (t : Epoch) : Works s (s.recordDigest t) :=
  works_inner s _ _ _ (keeps_recordDigest s t) (fun h => h) (le_refl _) (appendHistory_length_le _ _) ⟨rfl, rfl, rfl, rfl⟩
    fun _ => rfl

/-- The Barrier Unit's fields that a PRESENT's take sets. -/
theorem works_barrier (b : Barrier) (h : b.voted = s.barrier.voted ∧ b.late = s.barrier.late ∧
    b.pendingVote = s.barrier.pendingVote ∧ b.shown = s.barrier.shown)
    (hs : s.members.station ≠ .member → b.slot = s.barrier.slot) : Works s { s with barrier := b } :=
  works_inner s _ _ _ (keeps_barrier s b) (fun h => h) (le_refl _) (fun h => h) h hs

theorem works_beginPresent (t : Epoch) : Works s (s.beginPresent t) := by
  have h := (works_recordDigest s t).trans (works_setEngine _ .awaitBarrier 0)
  unfold State.beginPresent
  dsimp only
  split
  · rename_i hm
    refine h.trans (works_barrier _ _ ⟨rfl, rfl, rfl, rfl⟩ fun hn => absurd (of_decide_eq_true hm) hn)
  · exact (h.trans (works_barrier _ _ ⟨rfl, rfl, rfl, rfl⟩ fun _ => rfl)).trans (works_commitFor _ t)

theorem works_digest (d : BitVec 32) : Works s { s with raster := { s.raster with digest := d } } :=
  works_inner s _ _ _ (keeps_raster s _ rfl rfl) (fun h => h) (le_refl _) (fun h => h) ⟨rfl, rfl, rfl, rfl⟩ fun _ => rfl

theorem works_take (r : InRecord) : Works s (s.take r) := by
  have h := works_digest s (foldRecord s.raster.digest r)
  unfold State.take
  dsimp only
  split
  · exact h.trans (works_complete _)
  · split
    · exact h.trans (works_complete _)
    · exact h.trans (works_beginShift _ _ _ _ _)
    · exact h.trans (works_beginPresent _ _)
    · split
      · exact h.trans (works_complete _)
      · exact h.trans (works_setEngine _ _ _)

theorem works_settleFor (fuel : Nat) : ∀ s, Works s (State.settleFor fuel s) := by
  induction fuel with
  | zero => exact Works.refl
  | succ fuel ih =>
    intro s
    unfold State.settleFor
    split
    · split
      · exact Works.refl s
      · exact (works_take s _).trans (ih _)
    · exact Works.refl s

theorem works_settle : Works s s.settle := works_settleFor _ s

theorem works_commitNow : Works s s.commitNow := by
  unfold State.commitNow
  split
  · exact (works_commitFor s _).trans (works_settle _)
  · exact Works.refl s

theorem works_evaluateCommit : Works s s.evaluateCommit := by
  unfold State.evaluateCommit
  split
  · split
    · exact works_commitNow s
    · exact Works.refl s
  · exact Works.refl s

theorem works_rosterChanged : Works s s.rosterChanged := (works_recheckOutbox s).trans (works_evaluateCommit _)

theorem works_finishRecord : Works s s.finishRecord := (works_complete s).trans (works_settle _)

theorem works_abandonWaits : Works s s.abandonWaits :=
  ((works_recheckOutbox s).trans (works_endEdgeWait _)).trans (works_commitNow _)

/-- The roster is no business of the engine's. -/
theorem Works.inRoster {s t : State} (h : Works s t) (n : Station) : t.inRoster n = s.inRoster n := by
  unfold State.inRoster
  rw [h.peer n]

end Sys2Proof.Machine
end

section
/-! PROOFS. What every row of the bus and of the timers keeps: the queues within their places, the own entry, the row, the abort
count and the sequence counter; one relation, and one lemma for each operation. -/

namespace Sys2Proof.Machine

/-! ### The peer table -/

theorem peer_of_peers {s t : State} (h : t.peers = s.peers) (n : Station) : t.peer n = s.peer n := by
  simp only [State.peer, h]

theorem peer_setPeer_ne (s : State) {n k : Station} (h : n ≠ k) (f : Peer → Peer) : (s.setPeer n f).peer k = s.peer k := by
  rw [peer_setPeer, if_neg fun hc => h hc.1]

theorem peer_setPeer_apply (s : State) (n k : Station) (f : Peer → Peer) :
    (s.setPeer n f).peer k = s.peer k ∨ (s.setPeer n f).peer k = f (s.peer k) := by
  rw [peer_setPeer]
  split
  · exact .inr rfl
  · exact .inl rfl

theorem peer_mapPeers (s : State) (f : Peer → Peer) (n : Station) :
    (s.mapPeers f).peer n = if n.val < s.peers.length then f (s.peer n) else Peer.reset false := by
  simp only [State.peer, State.mapPeers, List.getElem?_map]
  by_cases h : n.val < s.peers.length <;> simp [h]

/-- An entry that is not an absent one of a short table is in the table. -/
theorem peer_self_lt {s : State} {n : Station} (h : (s.peer n).state ≠ .absent) : n.val < s.peers.length := by
  by_contra hlt
  exact h (by simp [State.peer, List.getElem?_eq_none (Nat.le_of_not_lt hlt)])

/-- The own entry: SELF, with no silence timer and no E (R65, R87). -/
def State.ownSound (s : State) : Prop :=
  (s.peer s.straps.n).state = .self ∧ (s.peer s.straps.n).silence = none ∧ (s.peer s.straps.n).expected = none

theorem ownSound_congr {s t : State} (hs : t.straps = s.straps)
    (h : (t.peer s.straps.n).state = (s.peer s.straps.n).state ∧ (t.peer s.straps.n).silence = (s.peer s.straps.n).silence ∧
      (t.peer s.straps.n).expected = (s.peer s.straps.n).expected) (k : s.ownSound) : t.ownSound := by
  obtain ⟨h1, h2, h3⟩ := h
  unfold State.ownSound at k ⊢
  rwa [hs, h1, h2, h3]

theorem ownSound_setPeer_ne {s : State} {n : Station} (h : n ≠ s.straps.n) (f : Peer → Peer) (k : s.ownSound) :
    (s.setPeer n f).ownSound :=
  ownSound_congr (s := s) rfl (by rw [peer_setPeer_ne s h]; exact ⟨rfl, rfl, rfl⟩) k

theorem ownSound_setPeer {s : State} (n : Station) {f : Peer → Peer}
    (h : ∀ p : Peer, p.state = .self → p.silence = none → (f p).state = p.state ∧ (f p).silence = none ∧ (f p).expected = p.expected)
    (k : s.ownSound) : (s.setPeer n f).ownSound := by
  refine ownSound_congr (s := s) rfl ?_ k
  obtain ⟨k1, k2, k3⟩ := k
  rcases peer_setPeer_apply s n s.straps.n f with e | e
  · rw [e]; exact ⟨rfl, rfl, rfl⟩
  · rw [e, k2]; exact h _ k1 k2

theorem ownSound_mapPeers {s : State} {f : Peer → Peer}
    (h : ∀ p : Peer, p.state = .self → p.silence = none → p.expected = none →
      (f p).state = .self ∧ (f p).silence = none ∧ (f p).expected = none) (k : s.ownSound) : (s.mapPeers f).ownSound := by
  obtain ⟨k1, k2, k3⟩ := k
  have hlt : s.straps.n.val < s.peers.length := peer_self_lt (by rw [k1]; decide)
  have hp : (s.mapPeers f).peer s.straps.n = f (s.peer s.straps.n) := by rw [peer_mapPeers, if_pos hlt]
  unfold State.ownSound
  rw [State.mapPeers_straps, hp]
  exact h _ k1 k2 k3

/-! ### The relation -/

/-- What every row of the bus and the timers keeps: the queues, the own entry, the row and the abort count sound, and the role pointer
but for a commit, which raises COMMIT. -/
structure Preserves (s t : State) : Prop where
  keeps : Keeps s t
  queues : s.QueuesSound → t.QueuesSound
  own : s.ownSound → t.ownSound
  row : s.scan.row ≤ 47 → t.scan.row ≤ 47
  aborts : s.bus.aborts ≤ Config.maxAborts → t.bus.aborts ≤ Config.maxAborts
  shown : t.barrier.shown = s.barrier.shown ∨ t.flagSet .commit = true

/-- What every such row but a self-delivery keeps: the sequence counter too. -/
structure KeepsSound (s t : State) : Prop extends Preserves s t where
  counter : t.stream.counter = s.stream.counter

theorem Preserves.refl (s : State) : Preserves s s := ⟨Keeps.refl s, id, id, id, id, .inl rfl⟩

theorem Preserves.trans {s t u : State} (h : Preserves s t) (k : Preserves t u) : Preserves s u where
  keeps := h.keeps.trans k.keeps
  queues := k.queues ∘ h.queues
  own := k.own ∘ h.own
  row := k.row ∘ h.row
  aborts := k.aborts ∘ h.aborts
  shown := by
    rcases k.shown with e | e
    · rcases h.shown with e' | e'
      · exact .inl (e.trans e')
      · exact .inr (k.keeps.flags _ e')
    · exact .inr e

theorem KeepsSound.refl (s : State) : KeepsSound s s := ⟨Preserves.refl s, rfl⟩

theorem KeepsSound.trans {s t u : State} (h : KeepsSound s t) (k : KeepsSound t u) : KeepsSound s u :=
  ⟨h.toPreserves.trans k.toPreserves, k.counter.trans h.counter⟩

/-- The tables keep their shape under every row that keeps the own entry, the row and the abort count. -/
theorem Preserves.tables {s t : State} (k : Preserves s t) (h : s.TablesSound) : t.TablesSound where
  width := k.keeps.straps ▸ h.width
  height := k.keeps.straps ▸ h.height
  peers := k.keeps.peers.trans h.peers
  ownEntry := k.own h.ownEntry
  watch := k.keeps.watch ▸ h.watch
  bounds := k.keeps.watch ▸ k.keeps.straps ▸ h.bounds
  row := k.row h.row
  cursor := k.keeps.port ▸ h.cursor
  mark := k.keeps.port ▸ h.mark
  contrast := k.keeps.port ▸ h.contrast
  aborts := k.aborts h.aborts

theorem Works.sound {s t : State} (h : Works s t) : KeepsSound s t where
  keeps := h.keeps
  queues q :=
    { outbound := by rw [h.stream]; exact q.outbound
      inbound := le_trans h.inbound.length_le q.inbound
      outbox := h.outbox q.outbox
      inbox := le_trans h.inbox q.inbox
      history := h.history q.history
      place := fun x hx ho => lt_of_le_of_lt h.inbound.length_le (q.place x (h.bus ▸ hx) ho) }
  own := ownSound_congr h.keeps.straps (by rw [h.peer]; exact ⟨rfl, rfl, rfl⟩)
  row hr := by rcases h.row with e | e <;> omega
  aborts ha := by rwa [h.bus]
  shown := h.shown
  counter := by rw [h.stream]

variable (s : State)

/-- Whatever else than the boxes, the engine, the scan and the line's transaction is replaced, the own entry sound. -/
theorem sound_outer (f : Framing) (m : Members) (p : List Peer) (b : Barrier) (e : Events) (st : Stream)
    (k : Keeps s { s with bus := { s.bus with framing := f }, members := m, peers := p, barrier := b, events := e, stream := st })
    (own : s.ownSound → State.ownSound { s with peers := p })
    (hst : st.outbound = s.stream.outbound ∧ st.inbound = s.stream.inbound ∧ st.counter = s.stream.counter ∧
      b.shown = s.barrier.shown) :
    KeepsSound s
      { s with bus := { s.bus with framing := f }, members := m, peers := p, barrier := b, events := e, stream := st } where
  keeps := k
  queues q :=
    { outbound := hst.1 ▸ q.outbound
      inbound := hst.2.1 ▸ q.inbound
      outbox := q.outbox
      inbox := q.inbox
      history := q.history
      place := fun x hx ho => hst.2.1 ▸ q.place x hx ho }
  own := own
  row := id
  aborts := id
  shown := .inl hst.2.2.2
  counter := hst.2.2.1

theorem sound_setPeer_ne {n : Station} (h : n ≠ s.straps.n) (f : Peer → Peer) : KeepsSound s (s.setPeer n f) :=
  sound_outer s _ _ _ _ _ _ (keeps_setPeer s n f) (ownSound_setPeer_ne h f) ⟨rfl, rfl, rfl, rfl⟩

theorem sound_setPeer (n : Station) {f : Peer → Peer}
    (h : ∀ p : Peer, p.state = .self → p.silence = none → (f p).state = p.state ∧ (f p).silence = none ∧ (f p).expected = p.expected) :
    KeepsSound s (s.setPeer n f) :=
  sound_outer s _ _ _ _ _ _ (keeps_setPeer s n f) (ownSound_setPeer n h) ⟨rfl, rfl, rfl, rfl⟩

theorem sound_mapPeers {f : Peer → Peer}
    (h : ∀ p : Peer, p.state = .self → p.silence = none → p.expected = none →
      (f p).state = .self ∧ (f p).silence = none ∧ (f p).expected = none) : KeepsSound s (s.mapPeers f) :=
  sound_outer s _ _ _ _ _ _ (keeps_mapPeers s f) (ownSound_mapPeers h) ⟨rfl, rfl, rfl, rfl⟩

theorem sound_raise (e : Event) : KeepsSound s (s.raise e) :=
  sound_outer s _ _ _ _ _ _ (keeps_raise s e) id ⟨rfl, rfl, rfl, rfl⟩

theorem sound_raiseIf (c : Bool) (e : Event) : KeepsSound s (s.raiseIf c e) := by
  cases c
  · exact KeepsSound.refl s
  · exact sound_raise s e

theorem sound_members (m : Members) : KeepsSound s { s with members := m } :=
  sound_outer s _ _ _ _ _ _ (keeps_members s m) id ⟨rfl, rfl, rfl, rfl⟩

theorem sound_setStation (st : StationState) (l b : Option Nat) (h : Option HelloKind) : KeepsSound s (s.setStation st l b h) :=
  sound_members s _

theorem sound_barrier (b : Barrier) (h : b.shown = s.barrier.shown) : KeepsSound s { s with barrier := b } :=
  sound_outer s _ _ _ _ _ _ (keeps_barrier s b) id ⟨rfl, rfl, rfl, h⟩

theorem sound_setFraming (f : Framing) : KeepsSound s (s.setFraming f) :=
  sound_outer s _ _ _ _ _ _ (keeps_setFraming s f) id ⟨rfl, rfl, rfl, rfl⟩

theorem sound_decideAck : KeepsSound s s.decideAck := sound_setFraming s _

theorem sound_holdVote (n : Station) (t : Epoch) : KeepsSound s (s.holdVote n t) := sound_barrier s _ rfl

theorem sound_epoch (e : Epoch) : KeepsSound s { s with stream := { s.stream with epoch := e } } :=
  sound_outer s _ _ _ _ _ _ (keeps_stream s _ rfl) id ⟨rfl, rfl, rfl, rfl⟩

theorem sound_setExpected {n : Station} (h : n ≠ s.straps.n) (e : Byte) : KeepsSound s (s.setExpected n e) :=
  sound_setPeer_ne s h _

theorem sound_restartSilence (n : Station) : KeepsSound s (s.restartSilence n) :=
  sound_setPeer s n fun p h1 h2 => ⟨p.heard_state, by simp [Peer.heard, h1, h2], p.heard_expected⟩

theorem sound_diverge (r : DivergenceRecord) : KeepsSound s (s.diverge r) := by
  have h := (sound_raise s .diverged).trans
    (sound_setPeer _ r.peer (f := fun p => { p with diverged := true }) fun _ _ h => ⟨rfl, h, rfl⟩)
  unfold State.diverge
  dsimp only
  split
  · exact h
  · exact h.trans (sound_members _ _)

/-- The transaction changed to one that owes a delivery only if there was one that did. -/
theorem sound_bus (b : Bus) (ha : s.bus.aborts ≤ Config.maxAborts → b.aborts ≤ Config.maxAborts)
    (ht : ∀ y, b.tx = some y → y.owesDelivery = true → ∃ x, s.bus.tx = some x ∧ x.owesDelivery = true) :
    KeepsSound s { s with bus := b } where
  keeps := keeps_bus s b
  queues q :=
    { outbound := q.outbound
      inbound := q.inbound
      outbox := q.outbox
      inbox := q.inbox
      history := q.history
      place := fun y hy ho => by
        obtain ⟨x, hx, hox⟩ := ht y hy ho
        exact q.place x hx hox }
  own := id
  row := id
  aborts := ha
  shown := .inl rfl
  counter := rfl

/-! ### The Edge Unit -/

theorem judgeByInbox_store {s : State} {p : EdgePayload} (h : s.judgeByInbox p = .store) :
    s.edge.inbox.length < Config.inboxPlaces := by
  unfold State.judgeByInbox at h
  split at h
  · simp at h
  · split at h
    · assumption
    · simp at h

/-- The judgement of a strip that is not stale: the cases of R143 that follow the first. -/
def State.judgeByShift (s : State) (p : EdgePayload) : StripVerdict :=
  match s.edge.shift with
  | some x =>
    if p.isFor x then
      if x.direction ≠ p.direction ∨ x.k ≠ p.k then .discard false
      else if x.strip.isSome ∨ x.step = .fill then .discard true
      else if x.step = .await then .fillNow
      else if (s.edge.inbox.find? p.sameAs).isNone then .hold
      else s.judgeByInbox p
    else s.judgeByInbox p
  | none => s.judgeByInbox p

theorem judgeStrip_stale {s : State} {p : EdgePayload} {a : Byte} (h : (s.peer p.originator).applied = some a)
    (hs : seqAfter p.seq a = false) : s.judgeStrip p = .discard true := by
  simp [State.judgeStrip, h, hs]

theorem judgeStrip_fresh {s : State} {p : EdgePayload}
    (h : ∀ a, (s.peer p.originator).applied = some a → seqAfter p.seq a = true) : s.judgeStrip p = s.judgeByShift p := by
  unfold State.judgeStrip State.judgeByShift
  cases ha : (s.peer p.originator).applied with
  | none => rfl
  | some a => simp only [h a ha]; rfl

theorem judgeByShift_store {s : State} {p : EdgePayload} (h : s.judgeByShift p = .store) :
    s.edge.inbox.length < Config.inboxPlaces := by
  unfold State.judgeByShift at h
  split at h
  · split at h
    · split at h
      · simp at h
      · split at h
        · simp at h
        · split at h
          · simp at h
          · split at h
            · simp at h
            · exact judgeByInbox_store h
    · exact judgeByInbox_store h
  · exact judgeByInbox_store h

/-- A strip is stored only where the inbox has a place (R143). -/
theorem judgeStrip_store {s : State} {p : EdgePayload} (h : s.judgeStrip p = .store) :
    s.edge.inbox.length < Config.inboxPlaces := by
  by_cases hf : ∀ a, (s.peer p.originator).applied = some a → seqAfter p.seq a = true
  · exact judgeByShift_store (judgeStrip_fresh hf ▸ h)
  · push Not at hf
    obtain ⟨a, ha, hs⟩ := hf
    rw [judgeStrip_stale ha (by simpa using hs)] at h
    exact absurd h (by decide)

theorem sound_store (e : InboxEntry) (h : s.edge.inbox.length < Config.inboxPlaces) :
    KeepsSound s (s.setInbox (s.edge.inbox ++ [e])) where
  keeps := keeps_setInbox s _
  queues q :=
    { outbound := q.outbound
      inbound := q.inbound
      outbox := q.outbox
      inbox := by rw [State.setInbox_edge_inbox, List.length_append, List.length_singleton]; omega
      history := q.history
      place := q.place }
  own := id
  row := id
  aborts := id
  shown := .inl rfl
  counter := rfl

theorem sound_takeStrip (p : EdgePayload) : KeepsSound s (s.takeStrip p) := by
  unfold State.takeStrip
  split
  · exact (works_startFill s _ _).sound
  · exact (works_setShift s _).sound
  · rename_i hj
    exact sound_store s _ (judgeStrip_store hj)
  all_goals exact KeepsSound.refl s

/-! ### The Membership Unit -/

theorem sound_enterOutOfStep : KeepsSound s s.enterOutOfStep :=
  (((sound_setStation s _ _ _ _).trans (sound_raise _ _)).trans (works_abandonWaits _).sound).trans (works_leaveIfDrained _).sound

theorem sound_enterBusFault : KeepsSound s s.enterBusFault :=
  ((((sound_setStation s _ _ _ _).trans (sound_raise _ .busFault)).trans
    (sound_mapPeers _ (f := fun p => { p with silence := none }) fun _ h1 _ h3 => ⟨h1, rfl, h3⟩)).trans
      (sound_setFraming _ _)).trans (works_abandonWaits _).sound

theorem sound_clearInbox : KeepsSound s (s.setInbox []) := (works_setInbox s [] (Nat.zero_le _)).sound

theorem sound_enterListening : KeepsSound s s.enterListening :=
  (((sound_setStation s _ _ _ _).trans
    (sound_mapPeers _ (f := Peer.forget) fun _ h1 _ _ => ⟨by simp [Peer.forget, h1], rfl, rfl⟩)).trans
      (sound_clearInbox _)).trans (works_rosterChanged _).sound

theorem mem_stations (n : Station) : n ∈ stations := List.mem_of_getElem? (stations_getElem? n)

theorem mem_roster (n : Station) : n ∈ s.roster ↔ s.inRoster n = true := by
  simp [State.roster, mem_stations]

theorem mem_nonAckers (acked : List Station) (n : Station) : n ∈ s.nonAckers acked ↔ s.inRoster n = true ∧ n ∉ acked := by
  simp [State.nonAckers, mem_roster]

theorem foldl_setPeer (gone : List Station) (f : Peer → Peer) :
    gone.foldl (fun s n => s.setPeer n f) s = { s with peers := gone.foldl (fun l n => l.modify n.val f) s.peers } := by
  induction gone generalizing s with
  | nil => rfl
  | cons n rest ih => exact ih _

theorem dropPeers_eq (gone : List Station) : s.dropPeers gone =
    State.raiseIf { s with peers := gone.foldl (fun l n => l.modify n.val Peer.drop) s.peers } (!gone.isEmpty) .peerLeft := by
  rw [State.dropPeers, foldl_setPeer]

theorem ownSound_foldl_setPeer {gone : List Station} (h : s.straps.n ∉ gone) (f : Peer → Peer) (k : s.ownSound) :
    State.ownSound { s with peers := gone.foldl (fun l n => l.modify n.val f) s.peers } := by
  induction gone generalizing s with
  | nil => exact k
  | cons n rest ih =>
    exact ih (s.setPeer n f) (fun hm => h (List.mem_cons_of_mem _ hm))
      (ownSound_setPeer_ne (fun e => h (by simp [e])) f k)

/-- Peers dropped for not acking are roster peers, and so the station itself is none of them. -/
theorem sound_dropNonAckers (acked : List Station) : KeepsSound s (s.dropPeers (s.nonAckers acked)) := by
  rw [dropPeers_eq]
  refine KeepsSound.trans (sound_outer s _ _ _ _ _ _ ?_ ?_ ⟨rfl, rfl, rfl, rfl⟩) (sound_raiseIf _ _ _)
  · have h := keeps_dropPeers s (s.nonAckers acked)
    rw [dropPeers_eq, raiseIf_eq] at h
    exact { Keeps.refl s with peers := h.peers }
  · intro k
    refine ownSound_foldl_setPeer s (fun hm => ?_) _ k
    have hmember : (s.peer s.straps.n).state = .member := of_decide_eq_true ((mem_nonAckers s acked _).mp hm).1
    rw [k.1] at hmember
    exact absurd hmember (by decide)

theorem works_mark (m : PictureMark) : Works s { s with raster := { s.raster with mark := m } } :=
  works_inner s _ _ _ (keeps_raster s _ rfl rfl) (fun h => h) (le_refl _) (fun h => h) ⟨rfl, rfl, rfl, rfl⟩ fun _ => rfl

theorem sound_enterMember (acked : List Station) : KeepsSound s (s.enterMember acked) := by
  unfold State.enterMember
  refine KeepsSound.trans ?_ (works_rosterChanged _).sound
  refine KeepsSound.trans ?_ (sound_raise _ _)
  refine KeepsSound.trans ?_ (works_mark _ _).sound
  exact ((sound_dropNonAckers s acked).trans (sound_setStation _ _ _ _ _)).trans (sound_barrier _ _ rfl)

theorem sound_removePeer {n : Station} (h : n ≠ s.straps.n) (d : PeerState) : KeepsSound s (s.removePeer n d) := by
  unfold State.removePeer
  dsimp only
  split
  · exact ((sound_setPeer_ne s h _).trans (sound_raise _ _)).trans (works_rosterChanged _).sound
  · exact sound_setPeer_ne s h _

theorem sound_reportGap : KeepsSound s s.reportGap := by
  unfold State.reportGap
  split
  · exact sound_members s _
  · exact KeepsSound.refl s

theorem sound_observeOther {n : Station} (h : n ≠ s.straps.n) (q : Byte) : KeepsSound s (s.observeOther n q) := by
  unfold State.observeOther
  split
  · exact (sound_setExpected s h _).trans (sound_reportGap _)
  · exact sound_setExpected s h _

/-! ### The line and the transactions -/

theorem writePendingVote_bus : s.writePendingVote.bus = s.bus := by
  unfold State.writePendingVote
  split
  · exact (works_evaluateCommit _).bus
  · rfl

theorem sound_writePendingVote : KeepsSound s s.writePendingVote := by
  unfold State.writePendingVote
  split
  · refine KeepsSound.trans ?_ (works_evaluateCommit _).sound
    refine KeepsSound.trans ?_ (sound_barrier _ _ rfl)
    exact sound_setPeer s _ fun _ _ h => ⟨rfl, h, rfl⟩
  · exact KeepsSound.refl s

theorem leaveMessage_bus (f : Framing) : (s.leaveMessage f).bus = { s.bus with framing := f } := writePendingVote_bus _

theorem sound_leaveMessage (f : Framing) : KeepsSound s (s.leaveMessage f) :=
  (sound_setFraming s f).trans (sound_writePendingVote _)

/-- What the line's falling quiet comes to: nothing, or a message left for IDLE. -/
theorem placeLine_cases : s.placeLine = s ∨ s.placeLine = s.leaveMessage (s.bus.framing.quiet s.ownSlot) := by
  unfold State.placeLine
  split
  · exact .inl rfl
  · split <;> simp

theorem sound_placeLine : KeepsSound s s.placeLine := by
  rcases placeLine_cases s with e | e <;> rw [e]
  · exact KeepsSound.refl s
  · exact sound_leaveMessage s _

theorem placeLine_tx : s.placeLine.bus.tx = s.bus.tx := by
  rcases placeLine_cases s with e | e <;> rw [e]
  rw [leaveMessage_bus]

theorem beforeMessage_cases (a : BitVec 3) : s.beforeMessage a = s ∨ s.beforeMessage a = s.placeLine := by
  unfold State.beforeMessage
  split
  · split <;> simp
  · split <;> simp
  all_goals simp

theorem sound_beforeMessage (a : BitVec 3) : KeepsSound s (s.beforeMessage a) := by
  rcases beforeMessage_cases s a with e | e <;> rw [e]
  · exact KeepsSound.refl s
  · exact sound_placeLine s

theorem beforeMessage_tx (a : BitVec 3) : (s.beforeMessage a).bus.tx = s.bus.tx := by
  rcases beforeMessage_cases s a with e | e <;> rw [e]
  exact placeLine_tx s

theorem sound_closeAckField {t : Txn} (h : s.bus.tx = some t) (slots : List Station) : KeepsSound s (s.closeAckField t slots) := by
  refine sound_bus s _ id fun y hy ho => ⟨t, h, ?_⟩
  have hy' : y = s.afterAckField t (addAcked t.acked slots) := (Option.some.inj hy).symm
  rw [hy'] at ho
  unfold State.afterAckField at ho
  dsimp only at ho
  split at ho
  · exact ho
  · split at ho <;> exact ho

theorem sound_endAckField (slots : List Station) : KeepsSound s (s.endAckField slots) := by
  unfold State.endAckField
  split
  · rename_i t ht
    split <;> first | exact sound_closeAckField s ht _ | exact KeepsSound.refl s
  · exact KeepsSound.refl s

theorem sound_startBreak {t : Txn} (h : s.bus.tx = some t) (wait : Nat) (f : Framing) : KeepsSound s (s.startBreak t wait f) :=
  sound_bus s _ id fun y hy ho => ⟨t, h, by rw [← Option.some.inj hy] at ho; exact ho⟩

theorem sound_mismatchNow : KeepsSound s s.mismatchNow := by
  unfold State.mismatchNow
  split
  · rename_i t ht
    split
    · dsimp only
      split <;> exact sound_startBreak s ht _ _
    · exact sound_startBreak s ht _ _
    all_goals exact KeepsSound.refl s
  · exact KeepsSound.refl s

theorem sound_removeOutbound : KeepsSound s s.removeOutbound := by
  refine KeepsSound.trans (t := { s with stream := { s.stream with outbound := s.stream.outbound.tail } }) ?_ (sound_raiseIf _ _ _)
  exact
    { keeps := keeps_stream s _ rfl
      queues := fun q =>
        { outbound := le_trans (by simp) q.outbound
          inbound := q.inbound
          outbox := q.outbox
          inbox := q.inbox
          history := q.history
          place := q.place }
      own := id
      row := id
      aborts := id
      shown := .inl rfl
      counter := rfl }

theorem sound_dropAfter (o : Outcome) (acked : List Station) : KeepsSound s (s.dropAfter o acked) := by
  cases o
  case exhausted => exact sound_dropNonAckers s acked
  case abortedAfterCrc => exact sound_dropNonAckers s acked
  all_goals exact KeepsSound.refl s

theorem sound_countVote (t : Epoch) : KeepsSound s (s.countVote t) := sound_barrier s _ rfl

theorem sound_ownerEnds (t : Txn) (o : Outcome) (fourth : Bool) : KeepsSound s (s.ownerEnds t o fourth) := by
  unfold State.ownerEnds
  split
  · split
    · exact ((sound_countVote s _).trans (sound_dropAfter _ _ _)).trans (works_rosterChanged _).sound
    · exact (sound_countVote s _).trans (works_evaluateCommit _).sound
  · split
    · exact ((sound_removeOutbound s).trans (sound_dropAfter _ _ _)).trans (works_rosterChanged _).sound
    · exact sound_removeOutbound s
  · exact (((works_setOutbox s _ fun h => le_trans (by simp) h).sound).trans (sound_raiseIf _ _ _)).trans
      (works_recheckOutbox _).sound
  · exact sound_setStation s _ _ _ _
  · split
    · exact sound_members s _
    · exact sound_enterMember s _
  · split
    · exact sound_members s _
    · exact sound_enterListening s

theorem abortsAfter_le (a : Nat) (o : Outcome) : abortsAfter a o ≤ Config.maxAborts := by
  cases o <;> simp [abortsAfter]

theorem sound_endTransaction (t : Txn) (o : Outcome) : KeepsSound s (s.endTransaction t o) := by
  have h : KeepsSound s
      { s with bus := { framing := s.bus.framing.afterOwn t.phase, tx := none, aborts := abortsAfter s.bus.aborts o } } :=
    sound_bus s _ (fun _ => abortsAfter_le _ _) fun y hy _ => absurd hy (by simp)
  unfold State.endTransaction
  dsimp only
  split
  · refine KeepsSound.trans ?_ (sound_enterBusFault _)
    split
    · exact h
    · exact h.trans (sound_ownerEnds _ _ _ _)
  · split
    · exact h
    · exact h.trans (sound_ownerEnds _ _ _ _)

theorem sound_endResetBreak (t : Txn) : KeepsSound s (s.endResetBreak t) :=
  sound_bus s _ id fun y hy _ => absurd hy (by simp)

/-! ### The receptions -/

/-- What any reception comes to: nothing, a message lost for its length, a message that no block gets, the entry into BUS_FAULT for
the own number, or the blocks' part for a message of another station, with nothing of its own on the line. -/
theorem handOn_cases (cls : MsgClass) (m : Received) (blocks : State → State) (framed : State)
    (hf : framed = (s.beforeMessage m.attempt).setFraming
      { (s.beforeMessage m.attempt).bus.framing.ackField (lastRun (frameBits cls m)) with ackDue := false }) :
    s.handOn cls m blocks = s ∨ s.handOn cls m blocks = (s.beforeMessage m.attempt).loseMessage ∨
      s.handOn cls m blocks = framed ∨ s.handOn cls m blocks = framed.enterBusFault ∨
      s.bus.tx = none ∧ m.originator ≠ framed.straps.n ∧ s.handOn cls m blocks = blocks (framed.restartSilence m.originator) := by
  subst hf
  unfold State.handOn
  dsimp only
  split
  · exact .inl rfl
  · rename_i htx
    split
    · exact .inr (.inl rfl)
    · split
      · exact .inr (.inr (.inl rfl))
      · split
        · exact .inr (.inr (.inr (.inl rfl)))
        · rename_i hne
          refine .inr (.inr (.inr (.inr ⟨?_, hne, rfl⟩)))
          simpa [State.transmitting] using htx

theorem sound_handOn (cls : MsgClass) (m : Received) (blocks : State → State)
    (h : ∀ u : State, u.bus.tx = none → m.originator ≠ u.straps.n → KeepsSound u (blocks u)) :
    KeepsSound s (s.handOn cls m blocks) := by
  have hb := sound_beforeMessage s m.attempt
  have k := hb.trans (sound_setFraming _
    { (s.beforeMessage m.attempt).bus.framing.ackField (lastRun (frameBits cls m)) with ackDue := false })
  rcases handOn_cases s cls m blocks _ rfl with e | e | e | e | ⟨htx, hne, e⟩ <;> rw [e]
  · exact KeepsSound.refl s
  · exact hb.trans (sound_leaveMessage _ _)
  · exact k
  · exact k.trans (sound_enterBusFault _)
  · refine (k.trans (sound_restartSilence _ _)).trans (h _ ?_ hne)
    simpa [beforeMessage_tx] using htx

theorem sound_unlessForeign (m : Received) (blocks : State → State) (h : KeepsSound s (blocks s)) :
    KeepsSound s (s.unlessForeign m blocks) := by
  unfold State.unlessForeign
  split
  · exact KeepsSound.refl s
  · exact h

theorem sound_checkGeometry {o : Station} (ho : o ≠ s.straps.n) (g : Byte) (blocks : State → State)
    (h : KeepsSound s (blocks s)) : KeepsSound s (s.checkGeometry o g blocks) := by
  unfold State.checkGeometry
  split
  · exact h
  · exact (sound_raise s _).trans (sound_removePeer (s.raise _) ho _)

/-- A record appended where the inbound queue has a place, while no CANVAS transaction owes its own. -/
theorem sound_appendInbound (b : List Byte) (o : Station) (q : Byte) (bad : Bool)
    (hroom : s.stream.inbound.length < Config.inboundPlaces)
    (htx : ∀ x, s.bus.tx = some x → x.owesDelivery = false) : KeepsSound s (s.appendInbound b o q bad) where
  keeps := keeps_appendInbound s b o q bad
  queues h := by
    unfold State.appendInbound
    dsimp only
    constructor
    · simpa using h.outbound
    · simpa using hroom
    · simpa using h.outbox
    · simpa using h.inbox
    · simpa using h.history
    · intro x hx ho
      simp only [State.raiseIf_bus] at hx
      rw [htx x hx] at ho
      exact absurd ho (by decide)
  own := ownSound_congr (by simp [State.appendInbound]) (by
    rw [peer_of_peers (s := s) (by simp [State.appendInbound])]
    exact ⟨rfl, rfl, rfl⟩)
  row h := by simpa [State.appendInbound] using h
  aborts h := by simpa [State.appendInbound] using h
  shown := .inl (by simp [State.appendInbound])
  counter := by simp [State.appendInbound]

theorem canvasVerdict_accept {e : Option Byte} {q : Byte} {room : Bool} (h : canvasVerdict e q room = .accept) : room = true := by
  unfold canvasVerdict at h
  cases room
  · split at h
    · simp at h
    · split at h
      · simp at h
      · split at h <;> simp at h
  · rfl

theorem sound_judgeCanvas {m : Received} (htx : s.bus.tx = none) (ho : m.originator ≠ s.straps.n) :
    KeepsSound s (s.judgeCanvas m) := by
  unfold State.judgeCanvas
  split
  · split
    · rename_i hv
      have hroom : s.stream.inbound.length < Config.inboundPlaces := of_decide_eq_true (canvasVerdict_accept hv)
      have happ := sound_appendInbound s m.payload m.originator m.seq (parseOp s.straps m.payload).isNone hroom
        (by rw [htx]; simp)
      have ho' : m.originator ≠ (s.appendInbound m.payload m.originator m.seq (parseOp s.straps m.payload).isNone).straps.n := by
        rwa [happ.keeps.straps]
      exact ((happ.trans (sound_setExpected _ ho' _)).trans (sound_decideAck _)).trans (works_settle _).sound
    · exact KeepsSound.refl s
    · exact sound_decideAck s
    · exact sound_enterOutOfStep s
  · split
    · unfold State.observeCanvas
      dsimp only
      split
      · refine KeepsSound.trans ?_ (sound_reportGap _)
        refine KeepsSound.trans (sound_epoch s _) (sound_setExpected _ ?_ _)
        exact ho
      · refine KeepsSound.trans (sound_epoch s _) (sound_setExpected _ ?_ _)
        exact ho
    · exact KeepsSound.refl s

theorem sound_judgeVote {m : Received} (ho : m.originator ≠ s.straps.n) : KeepsSound s (s.judgeVote m) := by
  unfold State.judgeVote
  split
  · split
    · exact sound_enterOutOfStep s
    · split
      · exact (sound_decideAck s).trans (sound_holdVote _ _ _)
      · exact KeepsSound.refl s
  · split
    · split
      · exact (sound_observeOther s ho _).trans (sound_holdVote _ _ _)
      · exact sound_observeOther s ho _
    · exact KeepsSound.refl s

theorem sound_judgeEdge {m : Received} (ho : m.originator ≠ s.straps.n) : KeepsSound s (s.judgeEdge m) := by
  unfold State.judgeEdge
  split
  · split
    · exact sound_enterOutOfStep s
    · split
      · split
        · exact (sound_takeStrip s _).trans (sound_decideAck _)
        · exact sound_takeStrip s _
      · exact KeepsSound.refl s
  · split
    · exact sound_observeOther s ho _
    · exact KeepsSound.refl s

theorem sound_malformedHello {m : Received} (ho : m.originator ≠ s.straps.n) : KeepsSound s (s.malformedHello m) := by
  unfold State.malformedHello
  split
  · exact KeepsSound.refl s
  · split
    · split
      · exact sound_enterOutOfStep s
      · exact KeepsSound.refl s
    · split
      · exact sound_observeOther s ho _
      · exact KeepsSound.refl s

theorem sound_compareEpoch (o : Station) (e : Epoch) : KeepsSound s (s.compareEpoch o e) := by
  unfold State.compareEpoch
  split
  · exact KeepsSound.refl s
  · exact sound_diverge s _

theorem sound_compareDigest (o : Station) (c : Epoch) (d : BitVec 32) (b : Bool) : KeepsSound s (s.compareDigest o c d b) := by
  unfold State.compareDigest
  split
  · split
    · exact sound_diverge s _
    · exact KeepsSound.refl s
  · exact KeepsSound.refl s

theorem sound_observeCandidate {o : Station} (ho : o ≠ s.straps.n) : KeepsSound s (s.observeCandidate o) := by
  unfold State.observeCandidate
  split
  · exact sound_setPeer_ne s ho _
  · exact (sound_setPeer_ne s ho _).trans (works_rosterChanged _).sound

theorem works_afterJoin (changed : Bool) : Works s (s.afterJoin changed) := by
  unfold State.afterJoin
  split
  · exact works_rosterChanged s
  · exact works_evaluateCommit s

theorem sound_judgeBeacon {m : Received} (ho : m.originator ≠ s.straps.n) (e v c : Epoch) (d : BitVec 32) (b : Bool) :
    KeepsSound s (s.judgeBeacon m e v c d b) := by
  unfold State.judgeBeacon
  dsimp only
  split
  · exact KeepsSound.refl s
  · split
    · split
      · exact sound_enterOutOfStep s
      · split
        · exact ((sound_compareEpoch s _ _).trans (sound_compareDigest _ _ _ _ _)).trans (sound_holdVote _ _ _)
        · exact KeepsSound.refl s
    · split
      · have h := sound_observeOther s ho m.seq
        exact ((h.trans (sound_observeCandidate _ (h.keeps.straps ▸ ho))).trans (sound_epoch _ _)).trans (sound_holdVote _ _ _)
      · exact KeepsSound.refl s

theorem sound_admitJoin {o : Station} (ho : o ≠ s.straps.n) (e : Epoch) : KeepsSound s (s.admitJoin o e) :=
  (((sound_setPeer_ne s ho _).trans (sound_decideAck _)).trans (sound_raise _ _)).trans (works_afterJoin _ _).sound

theorem sound_refuseJoin {o : Station} (ho : o ≠ s.straps.n) (e : Epoch) : KeepsSound s (s.refuseJoin o e) := by
  unfold State.refuseJoin
  dsimp only
  have h := sound_diverge s
    { peer := o, cause := .joinEpoch, epoch := s.barrier.committed, own := s.stream.epoch.setWidth 32, theirs := e.setWidth 32 }
  split
  · exact h.trans (sound_removePeer _ (h.keeps.straps ▸ ho) _)
  · exact h

theorem sound_judgeJoin {m : Received} (ho : m.originator ≠ s.straps.n) (e : Epoch) : KeepsSound s (s.judgeJoin m e) := by
  unfold State.judgeJoin
  dsimp only
  have k := sound_setPeer_ne s ho Peer.clearForeign
  have k' := k.trans (sound_setExpected (s.setPeer m.originator Peer.clearForeign) ho (m.seq + 1))
  generalize hu : (s.setPeer m.originator Peer.clearForeign).setExpected m.originator (m.seq + 1) = u at k' ⊢
  have hou : m.originator ≠ u.straps.n := hu ▸ ho
  split
  · split
    · exact (k'.trans (sound_admitJoin u hou e))
    · exact k'.trans (sound_refuseJoin u hou e)
  · split
    · exact (k'.trans (sound_setPeer_ne u hou _)).trans (works_afterJoin _ _).sound
    · exact k

theorem sound_judgeLeave {m : Received} (ho : m.originator ≠ s.straps.n) : KeepsSound s (s.judgeLeave m) := by
  unfold State.judgeLeave State.peerLeaves
  dsimp only
  split
  · exact KeepsSound.refl s
  · split
    · split
      · have h := sound_enterOutOfStep s
        exact h.trans (sound_removePeer _ (h.keeps.straps ▸ ho) _)
      · exact sound_removePeer s ho _
    · split
      · have h := sound_observeOther s ho m.seq
        exact h.trans (sound_removePeer _ (h.keeps.straps ▸ ho) _)
      · exact sound_removePeer s ho _

theorem sound_discardMessage (bits : List Bool) : KeepsSound s (s.discardMessage bits) := by
  unfold State.discardMessage
  split
  · exact KeepsSound.refl s
  · split
    · exact sound_leaveMessage s _
    · exact sound_setFraming s _

theorem sound_breakOnLine : KeepsSound s s.breakOnLine := by
  unfold State.breakOnLine
  split
  · exact KeepsSound.refl s
  · exact sound_setFraming s _

theorem sound_endLine : KeepsSound s s.endLine := by
  unfold State.endLine
  split <;> first | exact sound_placeLine s | exact KeepsSound.refl s

theorem sound_enterIdle : KeepsSound s s.enterIdle := by
  unfold State.enterIdle
  split <;> first | exact sound_placeLine s | exact KeepsSound.refl s

theorem sound_upsetEndField : KeepsSound s s.upsetEndField := by
  unfold State.upsetEndField
  split
  · exact KeepsSound.refl s
  · split <;> first | exact sound_leaveMessage s _ | exact KeepsSound.refl s

end Sys2Proof.Machine
end

section
/-! PROOFS. What one row and one step can do: the rows of the bus and the timers, the rows of the local port, the engine's writes, the
resets, and a step on an empty queue; and with them the rules that hold over every row (chapters 1, 4, 8, 9 and 10). -/

namespace Sys2Proof.Machine

/-! ### The rows of the bus and the timers -/

/-- The rows of the bus and the timers that write no plane. -/
def isInner : Instr → Bool
  | .contend _ | .selfDelivery | .ackFieldEnd _ | .mismatch | .transactionEnd | .canvasReceived _ | .voteReceived _
  | .edgeReceived _ | .beaconReceived _ | .joinReceived _ | .leaveReceived _ | .badCrc _ | .breakSeen | .lineEnd
  | .listenTimerExpiry | .beaconTimerExpiry | .silenceTimeout _ | .barrierTimeout | .edgeTimeout | .rowEnd | .linePlaced
  | .endFieldUnsynced => true
  | .powerOn _ | .rstRisingEdge _ | .csFall _ | .unknownOpcode _ _ | .shortTransaction | .readStatus _ | .readEvents _
  | .readDivergence _ | .readPeer _ _ | .readWatch _ _ | .post _ | .clearEvents _ | .setMask _ | .setWatch _ _ _ _ _ _
  | .clearWatchHits _ | .setCursor _ _ | .writeOverlay _ _ | .writeOverlayPartialByte | .readOverlay _ _ | .editBegin
  | .editEnd | .setDisplay _ _ _ | .softReset | .drawPlaneWrite | .copyComplete | .rstAsserted => false

/-- A row that tells the end of a CRC field, where the own CANVAS may be self-delivered (R73, log 14). -/
def endsCrc : Instr → Prop
  | .selfDelivery => True
  | .ackFieldEnd _ => True
  | _ => False

variable (s : State)

theorem voteCandidate_owes {x : Txn} (h : s.voteCandidate = some x) : x.owesDelivery = false := by
  unfold State.voteCandidate at h
  split at h
  · obtain ⟨t, _, rfl⟩ := Option.map_eq_some_iff.mp h
    rfl
  · simp at h

theorem edgeCandidate_owes {x : Txn} (h : s.edgeCandidate = some x) : x.owesDelivery = false := by
  unfold State.edgeCandidate at h
  split at h
  · split at h
    · rw [← Option.some.inj h]; rfl
    · simp at h
  · simp at h

theorem canvasCandidate_room {x : Txn} (h : s.canvasCandidate = some x) : s.stream.inbound.length < Config.inboundPlaces := by
  unfold State.canvasCandidate at h
  split at h
  · split at h
    · rename_i hc; exact hc.2
    · simp at h
  · simp at h

theorem helloCandidate_owes {x : Txn} (h : s.helloCandidate = some x) : x.owesDelivery = false := by
  unfold State.helloCandidate at h
  split at h
  all_goals first | (rw [← Option.some.inj h]; rfl) | simp at h

theorem candidate_cases {x : Txn} (h : s.candidate = some x) : s.voteCandidate = some x ∨ s.edgeCandidate = some x ∨
    s.canvasCandidate = some x ∨ s.helloCandidate = some x := by
  unfold State.candidate at h
  cases hv : s.voteCandidate with
  | some v => exact .inl (by simpa [hv] using h)
  | none =>
    cases he : s.edgeCandidate with
    | some e => exact .inr (.inl (by simpa [hv, he] using h))
    | none =>
      cases hc : s.canvasCandidate with
      | some c => exact .inr (.inr (.inl (by simpa [hv, he, hc] using h)))
      | none => exact .inr (.inr (.inr (by simpa [hv, he, hc] using h)))

/-- A CANVAS is chosen only where the inbound queue has a place for its record (R56). -/
theorem candidate_room {x : Txn} (h : s.candidate = some x) (ho : x.owesDelivery = true) :
    s.stream.inbound.length < Config.inboundPlaces := by
  have hno : ¬ x.owesDelivery = false := by rw [ho]; decide
  rcases candidate_cases s h with h | h | h | h
  · exact absurd (voteCandidate_owes s h) hno
  · exact absurd (edgeCandidate_owes s h) hno
  · exact canvasCandidate_room s h
  · exact absurd (helloCandidate_owes s h) hno

/-- A transaction that begins, where a CANVAS has its place. -/
theorem sound_beginTx (x : Txn) (f : Framing)
    (h : x.owesDelivery = true → s.stream.inbound.length < Config.inboundPlaces) :
    KeepsSound s ((s.setTx (some x)).setFraming f) where
  keeps := (keeps_setTx s _).trans (keeps_setFraming _ f)
  queues q :=
    { outbound := q.outbound
      inbound := q.inbound
      outbox := q.outbox
      inbox := q.inbox
      history := q.history
      place := fun y hy ho => h (by rw [Option.some.inj hy]; exact ho) }
  own := id
  row := id
  aborts := id
  shown := .inl rfl
  counter := rfl

theorem sound_contendWith (rivals : List (BitVec 6)) : KeepsSound s (s.contendWith rivals) := by
  unfold State.contendWith
  split
  · dsimp only
    split
    · exact (works_recheckOutbox s).sound
    · rename_i x hx
      split
      · exact (works_recheckOutbox s).sound.trans (sound_beginTx _ _ _ fun ho => candidate_room _ hx ho)
      · exact (works_recheckOutbox s).sound.trans (sound_setFraming _ _)
  · exact KeepsSound.refl s

/-- The own record of a CANVAS transaction at its first CRC completion: appended, the counter advanced, the ack field begun, and not
yet taken by the engine (R63, R73). -/
def State.delivered (s : State) (x : Txn) : State :=
  { s with
    bus :=
      { s.bus with
        tx := some { x with crcDone := true, phase := .acks 0 [] }
        framing := s.bus.framing.ackField (lastRun (s.attemptBits x)) }
    stream :=
      { s.stream with
        counter := s.stream.counter + 1
        epoch := if isPresent s.straps x.payload then s.stream.epoch + 1 else s.stream.epoch
        inbound := s.stream.inbound ++ [{ bytes := x.payload, originator := s.straps.n, seq := x.seq, malformed := false
                                          tag := if isPresent s.straps x.payload then some (s.stream.epoch + 1) else none }] } }

theorem completeCrc_delivers {x : Txn} (ho : x.owner = .canvas) (hc : x.crcDone = false) :
    s.completeCrc x = (s.delivered x).settle := by
  have happ (u : State) : State.selfDeliver u x = State.settle { u with stream := { u.stream with
      counter := u.stream.counter + 1
      epoch := if isPresent u.straps x.payload then u.stream.epoch + 1 else u.stream.epoch
      inbound := u.stream.inbound ++ [{ bytes := x.payload, originator := u.straps.n, seq := x.seq, malformed := false
                                        tag := if isPresent u.straps x.payload then some (u.stream.epoch + 1) else none }] } } := by
    unfold State.selfDeliver State.appendInbound State.raiseIf
    cases isPresent u.straps x.payload <;> rfl
  unfold State.completeCrc
  dsimp only
  rw [if_pos ⟨ho, hc⟩, happ]
  rfl

theorem completeCrc_again {x : Txn} (h : ¬ (x.owner = .canvas ∧ x.crcDone = false)) :
    s.completeCrc x = (s.setTx (some { x with crcDone := true, phase := .acks 0 [] })).setFraming
      (s.bus.framing.ackField (lastRun (s.attemptBits x))) := by
  unfold State.completeCrc
  dsimp only
  rw [if_neg h]

theorem preserves_delivered {x : Txn} (hx : s.bus.tx = some x) (ho : x.owner = .canvas) (hc : x.crcDone = false) :
    Preserves s (s.delivered x) where
  keeps := { Keeps.refl s with }
  queues q :=
    { outbound := q.outbound
      inbound := by
        have hroom := q.place x hx (by simp [Txn.owesDelivery, ho, hc])
        simpa [State.delivered] using hroom
      outbox := q.outbox
      inbox := q.inbox
      history := q.history
      place := fun y hy hoy => by
        rw [← Option.some.inj hy] at hoy
        exact absurd hoy (by simp [Txn.owesDelivery]) }
  own := id
  row := id
  aborts := id
  shown := .inl rfl

/-- An attempt that completes its CRC field keeps all but the counter, the record finding the place that was free for it (R73). -/
theorem preserves_completeCrc {x : Txn} (hx : s.bus.tx = some x) : Preserves s (s.completeCrc x) := by
  by_cases h : x.owner = .canvas ∧ x.crcDone = false
  · rw [completeCrc_delivers s h.1 h.2]
    exact (preserves_delivered s hx h.1 h.2).trans (works_settle _).sound.toPreserves
  · rw [completeCrc_again s h]
    exact (sound_beginTx s _ _ fun ho => absurd ho (by simp [Txn.owesDelivery])).toPreserves

theorem counter_completeCrc (x : Txn) : (s.completeCrc x).stream.counter = s.stream.counter ∨
    x.owner = .canvas ∧ x.crcDone = false ∧ (s.completeCrc x).stream.counter = s.stream.counter + 1 := by
  by_cases h : x.owner = .canvas ∧ x.crcDone = false
  · rw [completeCrc_delivers s h.1 h.2]
    exact .inr ⟨h.1, h.2, (works_settle _).sound.counter⟩
  · rw [completeCrc_again s h]
    exact .inl rfl

theorem completeCrc_tx (x : Txn) : (s.completeCrc x).bus.tx = some { x with crcDone := true, phase := .acks 0 [] } := by
  by_cases h : x.owner = .canvas ∧ x.crcDone = false
  · rw [completeCrc_delivers s h.1 h.2, (works_settle _).bus]
    rfl
  · rw [completeCrc_again s h]
    rfl

/-- What a row does to a part that runs: it keeps a relation that its effect keeps and that a held part keeps. -/
theorem of_whenRunning {R : State → State → Prop} {f : State → State} {t : State} (hr : R s s) (hf : R s (f s))
    (h : Host.Outcome.next (whenRunning s f) = (.next t : Host.Outcome State Fault Refusal)) : R s t := by
  rw [← Host.Outcome.next.inj h]
  unfold whenRunning
  split
  · exact hr
  · exact hf

/-- A roster peer is not the station itself. -/
theorem sound_dropSilent {n : Station} (h : s.inRoster n = true) : KeepsSound s (s.removePeer n .dropped) := by
  have hpeer (f : Peer → Peer) : KeepsSound s (s.setPeer n f) :=
    sound_outer s _ _ _ _ _ _ (keeps_setPeer s n f) (fun k => ownSound_setPeer_ne (fun e => by
      have hm : (s.peer n).state = .member := of_decide_eq_true h
      rw [e, k.1] at hm
      exact absurd hm (by decide)) f k) ⟨rfl, rfl, rfl, rfl⟩
  unfold State.removePeer
  dsimp only
  rw [if_pos h]
  exact ((hpeer _).trans (sound_raise _ _)).trans (works_rosterChanged _).sound

theorem sound_startRow {r late : Nat} (h : s.scan.row ≤ 47 → r ≤ 47) : KeepsSound s (s.startRow r late) where
  keeps := keeps_startRow s r late
  queues q := { q with }
  own := id
  row := h
  aborts := id
  shown := .inl rfl
  counter := rfl

theorem sound_endRow : KeepsSound s s.endRow := by
  unfold State.endRow
  dsimp only
  split
  · exact sound_startRow s fun _ => by omega
  · exact (sound_startRow s fun _ => Nat.zero_le _).trans (sound_raise _ _)

/-- Rows of the bus and the timers, but those that may self-deliver, keep what is sound and the counter. -/
theorem exec_keepsSound {c : Instr} {t : State} (hc : isInner c = true) (hn : ¬ endsCrc c) (h : exec c s = .next t) :
    KeepsSound s t := by
  have hr := KeepsSound.refl s
  cases c
  case contend rivals => exact of_whenRunning s hr (sound_contendWith s rivals) h
  case mismatch => exact of_whenRunning s hr (sound_mismatchNow s) h
  case transactionEnd =>
    refine of_whenRunning s hr ?_ h
    split
    · split
      · exact sound_endTransaction s _ _
      · exact sound_endResetBreak s _
      · exact hr
    · exact hr
  case canvasReceived m =>
    exact of_whenRunning s hr (sound_handOn s _ m _ fun u htx ho => sound_unlessForeign u m _ (sound_judgeCanvas u htx ho)) h
  case voteReceived m =>
    exact of_whenRunning s hr (sound_handOn s _ m _ fun u _ ho => sound_unlessForeign u m _ (sound_judgeVote u ho)) h
  case edgeReceived m =>
    exact of_whenRunning s hr (sound_handOn s _ m _ fun u _ ho => sound_unlessForeign u m _ (sound_judgeEdge u ho)) h
  case beaconReceived m =>
    refine of_whenRunning s hr (sound_handOn s _ m _ fun u _ ho => ?_) h
    split
    · exact sound_checkGeometry u ho _ _ (sound_judgeBeacon u ho _ _ _ _ _)
    · exact sound_malformedHello u ho
  case joinReceived m =>
    refine of_whenRunning s hr (sound_handOn s _ m _ fun u _ ho => ?_) h
    split
    · exact sound_checkGeometry u ho _ _ (sound_judgeJoin u ho _)
    · exact sound_malformedHello u ho
  case leaveReceived m =>
    refine of_whenRunning s hr (sound_handOn s _ m _ fun u _ ho => ?_) h
    split
    · exact sound_checkGeometry u ho _ _ (sound_judgeLeave u ho)
    · exact sound_malformedHello u ho
  case badCrc bits => exact of_whenRunning s hr ((sound_beforeMessage s 1).trans (sound_discardMessage _ bits)) h
  case breakSeen => exact of_whenRunning s hr (sound_breakOnLine s) h
  case lineEnd => exact of_whenRunning s hr (sound_endLine s) h
  case listenTimerExpiry =>
    refine of_whenRunning s hr ?_ h
    split
    · exact (sound_setStation s _ _ _ _).trans (works_recheckOutbox _).sound
    · exact hr
  case beaconTimerExpiry =>
    refine of_whenRunning s hr ?_ h
    split
    · exact sound_setStation s _ _ _ _
    · exact hr
  case silenceTimeout n =>
    refine of_whenRunning s hr ?_ h
    split
    · rename_i hroster
      exact sound_dropSilent s hroster.1
    · exact hr
  case barrierTimeout =>
    refine of_whenRunning s hr ?_ h
    split
    · refine KeepsSound.trans ?_ (works_commitNow _).sound
      refine KeepsSound.trans ?_ (sound_raise _ _)
      exact sound_barrier s _ rfl
    · exact hr
  case edgeTimeout =>
    refine of_whenRunning s hr ?_ h
    split
    · exact (works_endEdgeWait s).sound
    · exact hr
  case rowEnd => exact of_whenRunning s hr (sound_endRow s) h
  case linePlaced => exact of_whenRunning s hr (sound_enterIdle s) h
  case endFieldUnsynced => exact of_whenRunning s hr (sound_upsetEndField s) h
  case selfDelivery => exact absurd trivial hn
  case ackFieldEnd => exact absurd trivial hn
  all_goals cases hc


theorem exec_selfDelivery_cases {t : State} (h : exec .selfDelivery s = .next t) :
    t = s ∨ ∃ x p, s.bus.tx = some x ∧ x.phase = .sending p ∧ x.owner = .canvas ∧ x.crcDone = false ∧ t = s.completeCrc x := by
  refine of_whenRunning (R := fun s t => t = s ∨ ∃ x p, s.bus.tx = some x ∧ x.phase = .sending p ∧ x.owner = .canvas ∧
    x.crcDone = false ∧ t = s.completeCrc x) s (.inl rfl) ?_ h
  split
  · rename_i x hx
    split
    · rename_i p hp
      split
      · rename_i ho
        exact .inr ⟨x, p, hx, hp, ho.1, ho.2, rfl⟩
      · exact .inl rfl
    all_goals exact .inl rfl
  · exact .inl rfl

/-- An ack field ends after its own attempt's CRC field, which it completes where that was not told (log 14). -/
theorem exec_ackFieldEnd_cases {slots : List Station} {t : State} (h : exec (.ackFieldEnd slots) s = .next t) :
    t = s ∨ t = s.endAckField slots ∨
      ∃ x p, s.bus.tx = some x ∧ x.phase = .sending p ∧ t = (s.completeCrc x).endAckField slots := by
  refine of_whenRunning (R := fun s t => t = s ∨ t = s.endAckField slots ∨
      ∃ x p, s.bus.tx = some x ∧ x.phase = .sending p ∧ t = (s.completeCrc x).endAckField slots) s (.inl rfl) ?_ h
  split
  · rename_i x hx
    split
    · rename_i p hp
      exact .inr (.inr ⟨x, p, hx, hp, rfl⟩)
    · exact .inr (.inl rfl)
    all_goals exact .inl rfl
  · exact .inl rfl

/-- Every row of the bus and the timers keeps what is sound. -/
theorem exec_preserves {c : Instr} {t : State} (hc : isInner c = true) (h : exec c s = .next t) : Preserves s t := by
  by_cases hn : endsCrc c
  · cases c
    case selfDelivery =>
      rcases exec_selfDelivery_cases s h with rfl | ⟨x, p, hx, _, _, _, rfl⟩
      · exact Preserves.refl t
      · exact preserves_completeCrc s hx
    case ackFieldEnd slots =>
      rcases exec_ackFieldEnd_cases s h with rfl | rfl | ⟨x, p, hx, _, rfl⟩
      · exact Preserves.refl t
      · exact (sound_endAckField s slots).toPreserves
      · exact (preserves_completeCrc s hx).trans (sound_endAckField _ slots).toPreserves
    all_goals cases hn
  · exact (exec_keepsSound s hc hn h).toPreserves

/-! ### The rows of the local port -/

/-- The rows of the local port. -/
def isPort : Instr → Bool
  | .csFall _ | .unknownOpcode _ _ | .shortTransaction | .readStatus _ | .readEvents _ | .readDivergence _ | .readPeer _ _
  | .readWatch _ _ | .post _ | .clearEvents _ | .setMask _ | .setWatch _ _ _ _ _ _ | .clearWatchHits _ | .setCursor _ _
  | .writeOverlay _ _ | .writeOverlayPartialByte | .readOverlay _ _ | .editBegin | .editEnd | .setDisplay _ _ _
  | .softReset => true
  | .powerOn _ | .rstRisingEdge _ | .contend _ | .selfDelivery | .ackFieldEnd _ | .mismatch | .transactionEnd
  | .canvasReceived _ | .voteReceived _ | .edgeReceived _ | .beaconReceived _ | .joinReceived _ | .leaveReceived _ | .badCrc _
  | .breakSeen | .lineEnd | .listenTimerExpiry | .beaconTimerExpiry | .silenceTimeout _ | .barrierTimeout | .edgeTimeout
  | .rowEnd | .linePlaced | .endFieldUnsynced | .drawPlaneWrite | .copyComplete | .rstAsserted => false

/-- A SET WATCH's part, taken or refused (R163). -/
def State.takeWatch (s : State) (entry enabled : Byte) (x0 : Half) (y0 : Byte) (x1 : Half) (y1 : Byte) : State :=
  if s.watchAllowed entry.toNat x0.toNat y0.toNat x1.toNat y1.toNat then
    { s with
      watch :=
        s.watch.set entry.toNat
          { enabled := enabled.getLsbD 0, x0 := x0.toNat, y0 := y0.toNat, x1 := x1.toNat, y1 := y1.toNat
            firstHit := none } }
  else s.raise .portError

/-- What a port row does to the part, its transaction and the bytes loaded apart. -/
def portEffect : Instr → State → State
  | .unknownOpcode _ _, s | .shortTransaction, s | .writeOverlayPartialByte, s => s.raise .portError
  | .readPeer index _, s => if index.toNat ≤ 15 then s else s.raise .portError
  | .readWatch entry _, s => if entry.toNat < s.watch.length then s else s.raise .portError
  | .post record, s =>
    match recordLength record with
    | some n => s.takePost (record.take n)
    | none => s.raise .portError
  | .clearEvents mask, s => s.clearFlags mask
  | .setMask mask, s => { s with events := { s.events with mask := mask } }
  | .setWatch entry enabled x0 y0 x1 y1, s => s.takeWatch entry enabled x0 y0 x1 y1
  | .clearWatchHits selection, s => { s with watch := clearHits selection s.watch }
  | .setCursor band column, s =>
    if band.toNat ≤ 5 ∧ column.toNat ≤ 143 then s.setCursor { band := band.toNat, column := column.toNat }
    else s.raise .portError
  | .writeOverlay data _, s => s.overlayWrites data
  | .readOverlay count _, s => s.setCursor (overlayLoads s.port.overlay s.port.mark.isSome count s.port.cursor).2
  | .editBegin, s => { s with port := { s.port with mark := some s.port.cursor } }
  | .editEnd, s =>
    match s.port.mark with
    | some c => { s with port := { s.port with cursor := c, mark := none } }
    | none => s
  | .setDisplay mode combine contrast, s =>
    match parseDisplay mode combine contrast with
    | some d => { s with port := { s.port with display := d } }
    | none => s.raise .portError
  | .softReset, s => s.softResetAll
  | _, s => s

/-- t is s, or what an effect makes of it, but for the port's transaction and the bytes loaded. -/
def PortRow (g : State → State) (s t : State) : Prop :=
  ∃ p o, t = s.setPort p o ∨ ∃ q l, t = (g (s.setPort q l)).setPort p o

theorem portRow_refl (g : State → State) : PortRow g s s := ⟨s.port.phase, s.port.out, .inl rfl⟩

theorem portRow_setPort (g : State → State) (p : PortPhase) (o : List Byte) : PortRow g s (s.setPort p o) := ⟨p, o, .inl rfl⟩

theorem portRow_effect {g : State → State} {p : PortPhase} {o : List Byte} : PortRow g s ((g s).setPort p o) :=
  ⟨p, o, .inr ⟨s.port.phase, s.port.out, rfl⟩⟩

theorem portRow_portCommand {f g : State → State} (h : ∀ u, ∃ p o, f u = (g u).setPort p o) (rises : Bool) :
    PortRow g s (s.portCommand rises f) := by
  rcases portCommand_cases s rises f with e | e | e <;> rw [e]
  · exact portRow_setPort s g _ _
  · obtain ⟨p, o, e'⟩ := h s
    rw [e']
    exact portRow_effect s
  · obtain ⟨p, o, e'⟩ := h s.beginTransaction
    exact ⟨p, o, .inr ⟨.opened, [s.statusByte], e'⟩⟩

theorem portRow_atRise (f : State → State) : PortRow f s (s.atRise f) :=
  portRow_portCommand s (fun u => ⟨.idle, u.port.out, rfl⟩) true

theorem portRow_setPort_effect (g : State → State) (q p : PortPhase) (l o : List Byte) :
    PortRow g s ((g (s.setPort q l)).setPort p o) := ⟨p, o, .inr ⟨q, l, rfl⟩⟩

theorem of_next {R : State → Prop} {u t : State} (hu : R u)
    (h : Host.Outcome.next u = (.next t : Host.Outcome State Fault Refusal)) : R t :=
  Host.Outcome.next.inj h ▸ hu

theorem readPeer_effect (index : Byte) (rises : Bool) (u : State) : ∃ p o,
    (if index.toNat ≤ 15 then u.respond rises (filler :: u.peerBytes (Fin.ofNat 16 index.toNat))
      else (u.raise .portError).respond rises []) = (portEffect (.readPeer index rises) u).setPort p o := by
  unfold portEffect
  dsimp only
  by_cases hi : index.toNat ≤ 15
  · rw [if_pos hi, if_pos hi]
    exact ⟨_, _, rfl⟩
  · rw [if_neg hi, if_neg hi]
    exact ⟨_, _, rfl⟩

theorem readWatch_effect (entry : Byte) (rises : Bool) (u : State) : ∃ p o,
    (match u.watch[entry.toNat]? with
      | some w => u.respond rises (filler :: w.bytes)
      | none => (u.raise .portError).respond rises []) = (portEffect (.readWatch entry rises) u).setPort p o := by
  unfold portEffect
  dsimp only
  by_cases hi : entry.toNat < u.watch.length
  · rw [if_pos hi, List.getElem?_eq_getElem hi]
    exact ⟨_, _, rfl⟩
  · rw [if_neg hi, List.getElem?_eq_none (Nat.le_of_not_lt hi)]
    exact ⟨_, _, rfl⟩

/-- What every row of the local port comes to (R172, R173, R175, R185). -/
theorem exec_portRow {c : Instr} {t : State} (hc : isPort c = true) (h : exec c s = .next t) : PortRow (portEffect c) s t := by
  cases c
  case csFall edges =>
    refine of_next (R := PortRow _ s) ?_ h
    cases edges
    case rise => exact portRow_setPort s _ _ _
    case fall => dsimp only; split <;> exact portRow_setPort s _ _ _
    case fallRise => dsimp only; split <;> exact portRow_setPort s _ _ _
  case unknownOpcode opcode rises =>
    refine of_next (R := PortRow _ s) ?_ h
    split
    · exact portRow_refl s _
    · exact portRow_portCommand s (fun u => ⟨_, _, rfl⟩) rises
  case shortTransaction => exact of_next (R := PortRow _ s) (portRow_atRise s _) h
  case readStatus rises => exact of_next (R := PortRow _ s) (portRow_portCommand s (fun u => ⟨_, _, rfl⟩) rises) h
  case readEvents rises => exact of_next (R := PortRow _ s) (portRow_portCommand s (fun u => ⟨_, _, rfl⟩) rises) h
  case readDivergence rises => exact of_next (R := PortRow _ s) (portRow_portCommand s (fun u => ⟨_, _, rfl⟩) rises) h
  case readPeer index rises =>
    exact of_next (R := PortRow _ s) (portRow_portCommand s (readPeer_effect index rises) rises) h
  case readWatch entry rises =>
    exact of_next (R := PortRow _ s) (portRow_portCommand s (readWatch_effect entry rises) rises) h
  case post record => exact of_next (R := PortRow _ s) (portRow_atRise s _) h
  case clearEvents mask => exact of_next (R := PortRow _ s) (portRow_atRise s _) h
  case setMask mask => exact of_next (R := PortRow _ s) (portRow_atRise s _) h
  case setWatch e en x0 y0 x1 y1 => exact of_next (R := PortRow _ s) (portRow_atRise s _) h
  case clearWatchHits selection => exact of_next (R := PortRow _ s) (portRow_atRise s _) h
  case setCursor band column => exact of_next (R := PortRow _ s) (portRow_atRise s _) h
  case writeOverlay data rises =>
    refine of_next (R := PortRow _ s) ?_ h
    split
    · exact portRow_effect s
    · exact portRow_portCommand s (fun u => ⟨_, _, rfl⟩) rises
  case writeOverlayPartialByte =>
    refine of_next (R := PortRow _ s) ?_ h
    split
    · exact portRow_effect s
    · exact portRow_atRise s _
  case readOverlay count rises =>
    refine of_next (R := PortRow _ s) ?_ h
    split
    · exact portRow_effect s
    · exact portRow_portCommand s (fun u => ⟨_, _, rfl⟩) rises
  case editBegin => exact of_next (R := PortRow _ s) (portRow_atRise s _) h
  case editEnd => exact of_next (R := PortRow _ s) (portRow_atRise s _) h
  case setDisplay mode combine contrast => exact of_next (R := PortRow _ s) (portRow_atRise s _) h
  case softReset => exact of_next (R := PortRow _ s) (portRow_atRise s _) h
  all_goals cases hc

/-! ### What the port rows' effects keep -/

variable {s}

/-- A property of the part that a port row's effect keeps, whatever the port's transaction, is kept by the row. -/
theorem PortRow.of {g : State → State} {t : State} (h : PortRow g s t) {P : State → Prop}
    (hset : ∀ u p o, P u → P (u.setPort p o)) (hg : ∀ u, P u → P (g u)) (hs : P s) : P t := by
  obtain ⟨p, o, rfl | ⟨q, l, rfl⟩⟩ := h
  · exact hset _ _ _ hs
  · exact hset _ _ _ (hg _ (hset _ _ _ hs))

theorem overlayWrites_frame (data : List Byte) (u : State) : u.overlayWrites data =
    { u with port := { u.port with overlay := (u.overlayWrites data).port.overlay, cursor := (u.overlayWrites data).port.cursor } } := by
  unfold State.overlayWrites
  induction data generalizing u with
  | nil => rfl
  | cons v data ih =>
    rw [List.foldl_cons, ih]
    rfl

/-- What every port row's effect leaves as it was. -/
structure PortKeeps (u v : State) : Prop where
  straps : v.straps = u.straps
  held : v.held = u.held
  pending : v.pending = u.pending
  planeA : v.raster.planeA = u.raster.planeA
  planeB : v.raster.planeB = u.raster.planeB
  shown : v.barrier.shown = u.barrier.shown
  counter : v.stream.counter = u.stream.counter
  scan : v.scan = u.scan

theorem PortKeeps.refl (u : State) : PortKeeps u u := ⟨rfl, rfl, rfl, rfl, rfl, rfl, rfl, rfl⟩

theorem portKeeps_clearFlags (u : State) (mask : Half) : PortKeeps u (u.clearFlags mask) := by
  unfold State.clearFlags
  dsimp only
  split <;> exact { PortKeeps.refl u with }

theorem portKeeps_takeWatch (u : State) (e en : Byte) (x0 : Half) (y0 : Byte) (x1 : Half) (y1 : Byte) :
    PortKeeps u (u.takeWatch e en x0 y0 x1 y1) := by
  unfold State.takeWatch
  split <;> exact { PortKeeps.refl u with }

theorem portKeeps_effect (c : Instr) (u : State) : PortKeeps u (portEffect c u) := by
  have h := PortKeeps.refl u
  cases c
  case readPeer => dsimp only [portEffect]; split <;> exact { h with }
  case readWatch => dsimp only [portEffect]; split <;> exact { h with }
  case post => dsimp only [portEffect]; split <;> exact { h with }
  case clearEvents mask => exact portKeeps_clearFlags u mask
  case setWatch e en x0 y0 x1 y1 => exact portKeeps_takeWatch u e en x0 y0 x1 y1
  case setCursor => dsimp only [portEffect]; split <;> exact { h with }
  case writeOverlay data _ => dsimp only [portEffect]; rw [overlayWrites_frame]; exact { h with }
  case editEnd => dsimp only [portEffect]; split <;> exact { h with }
  case setDisplay => dsimp only [portEffect]; split <;> exact { h with }
  all_goals exact { h with }

theorem exec_portKeeps {c : Instr} {t : State} (hc : isPort c = true) (h : exec c s = .next t) : PortKeeps s t := by
  obtain ⟨p, o, rfl | ⟨q, l, rfl⟩⟩ := exec_portRow s hc h
  · exact { PortKeeps.refl s with }
  · exact { portKeeps_effect c (s.setPort q l) with }

/-! ### The engine's writes -/

/-- What a DRAW_PLANE_WRITE can do: nothing, or a write that lands on the draw plane, and the engine's work after it. -/
theorem drawNext_cases (s : State) : s.drawNext = s ∨
    ∃ p id, Works (s.drawWrite p id).countWrite s.drawNext := by
  unfold State.drawNext
  split
  · split
    · split
      · unfold State.drawMove
        dsimp only
        split
        · exact .inr ⟨_, _, works_decideFill _ _⟩
        · exact .inr ⟨_, _, Works.refl _⟩
      · unfold State.drawFill
        dsimp only
        split
        · exact .inr ⟨_, _, works_finishRecord _⟩
        · exact .inr ⟨_, _, Works.refl _⟩
      all_goals exact .inl rfl
    · unfold State.drawPixel
      split
      · split
        · dsimp only
          split
          · exact .inr ⟨_, _, works_finishRecord _⟩
          · exact .inr ⟨_, _, Works.refl _⟩
        · exact .inl rfl
      · exact .inl rfl
    · exact .inl rfl
  · exact .inl rfl

theorem QueuesSound.congr {s t : State} (hst : t.stream = s.stream) (he : t.edge = s.edge) (hb : t.bus = s.bus)
    (hh : t.raster.history = s.raster.history) (q : s.QueuesSound) : t.QueuesSound where
  outbound := by rw [hst]; exact q.outbound
  inbound := by rw [hst]; exact q.inbound
  outbox := by rw [he]; exact q.outbox
  inbox := by rw [he]; exact q.inbox
  history := by rw [hh]; exact q.history
  place x hx ho := by rw [hst]; exact q.place x (hb ▸ hx) ho

theorem plane_setPlane (s : State) (p q : PlaneName) (m : Memory) : (s.setPlane p m).plane q = if q = p then m else s.plane q := by
  cases p <;> cases q <;> rfl

theorem planesSound_iff (s : State) : s.PlanesSound ↔ (∀ p, (s.plane p).wf = true) ∧ s.port.overlay.wf = true :=
  ⟨fun h => ⟨fun p => by cases p; exact h.planeA; exact h.planeB, h.overlay⟩, fun h => ⟨h.1 .a, h.1 .b, h.2⟩⟩

/-- What a write of the engine, told to the watch table or not, can change: the draw plane, which stays canonical, the writes issued,
the hits, and the flags, none of which is cleared. -/
structure Draws (s t : State) : Prop where
  straps : t.straps = s.straps
  held : t.held = s.held
  bus : t.bus = s.bus
  stream : t.stream = s.stream
  members : t.members = s.members
  peers : t.peers = s.peers
  barrier : t.barrier = s.barrier
  edge : t.edge = s.edge
  scan : t.scan = s.scan
  port : t.port = s.port
  pending : t.pending = s.pending
  mask : t.events.mask = s.events.mask
  flags : ∀ i, s.events.flags.getLsbD i = true → t.events.flags.getLsbD i = true
  raster : ∃ m i, t.raster = { (s.setDrawPlane m).raster with issued := i } ∧ (s.drawPlane.wf = true → m.wf = true)
  watch : ∃ f : WatchEntry → WatchEntry, t.watch = s.watch.map f ∧ ∀ w, f w = { w with firstHit := (f w).firstHit }

theorem Draws.refl (s : State) : Draws s s where
  straps := rfl
  held := rfl
  bus := rfl
  stream := rfl
  members := rfl
  peers := rfl
  barrier := rfl
  edge := rfl
  scan := rfl
  port := rfl
  pending := rfl
  mask := rfl
  flags _ h := h
  raster := ⟨s.drawPlane, s.raster.issued, by
    cases h : s.barrier.shown <;> simp [State.setDrawPlane, State.drawPlane, State.plane, State.setPlane, PlaneName.other, h], id⟩
  watch := ⟨id, by simp, fun _ => rfl⟩

theorem Draws.trans {s t u : State} (h : Draws s t) (k : Draws t u) : Draws s u where
  straps := k.straps.trans h.straps
  held := k.held.trans h.held
  bus := k.bus.trans h.bus
  stream := k.stream.trans h.stream
  members := k.members.trans h.members
  peers := k.peers.trans h.peers
  barrier := k.barrier.trans h.barrier
  edge := k.edge.trans h.edge
  scan := k.scan.trans h.scan
  port := k.port.trans h.port
  pending := k.pending.trans h.pending
  mask := k.mask.trans h.mask
  flags i hi := k.flags i (h.flags i hi)
  raster := by
    obtain ⟨m, i, hm, hw⟩ := h.raster
    obtain ⟨m', i', hm', hw'⟩ := k.raster
    have hdraw : t.drawPlane = m := by
      cases hs : s.barrier.shown <;>
        simp [State.drawPlane, State.plane, h.barrier, hm, hs, State.setDrawPlane, State.setPlane, PlaneName.other]
    refine ⟨m', i', ?_, fun hwf => hw' (hdraw ▸ hw hwf)⟩
    rw [hm']
    cases hs : s.barrier.shown <;> simp [State.setDrawPlane, State.setPlane, h.barrier, hm, hs, PlaneName.other]
  watch := by
    obtain ⟨f, hf, hk⟩ := h.watch
    obtain ⟨g, hg, hk'⟩ := k.watch
    refine ⟨g ∘ f, by rw [hg, hf, List.map_map], fun w => ?_⟩
    rw [Function.comp_apply, hk' (f w), hk w]

/-- The plane that is shown keeps every byte under the engine's writes. -/
theorem Draws.shownPlane {s t : State} (h : Draws s t) : t.plane s.barrier.shown = s.shownPlane := by
  obtain ⟨m, i, hm, _⟩ := h.raster
  cases hs : s.barrier.shown <;> simp [State.shownPlane, State.plane, hm, hs, State.setDrawPlane, State.setPlane, PlaneName.other]

theorem Draws.planes {s t : State} (h : Draws s t) (k : s.PlanesSound) : t.PlanesSound := by
  obtain ⟨m, i, hm, hw⟩ := h.raster
  obtain ⟨ka, kb, ko⟩ := k
  cases hs : s.barrier.shown
  · have hwf : m.wf = true := hw (by simpa [State.drawPlane, State.plane, PlaneName.other, hs] using kb)
    exact ⟨by simpa [hm, State.setDrawPlane, State.setPlane, PlaneName.other, hs] using ka,
      by simpa [hm, State.setDrawPlane, State.setPlane, PlaneName.other, hs] using hwf, by rw [h.port]; exact ko⟩
  · have hwf : m.wf = true := hw (by simpa [State.drawPlane, State.plane, PlaneName.other, hs] using ka)
    exact ⟨by simpa [hm, State.setDrawPlane, State.setPlane, PlaneName.other, hs] using hwf,
      by simpa [hm, State.setDrawPlane, State.setPlane, PlaneName.other, hs] using kb, by rw [h.port]; exact ko⟩

theorem Draws.queues {s t : State} (h : Draws s t) (k : s.QueuesSound) : t.QueuesSound := by
  obtain ⟨m, i, hm, _⟩ := h.raster
  exact QueuesSound.congr h.stream h.edge h.bus (by simp [hm]) k

theorem Draws.tables {s t : State} (h : Draws s t) (k : s.TablesSound) : t.TablesSound where
  width := by rw [h.straps]; exact k.width
  height := by rw [h.straps]; exact k.height
  peers := by rw [h.peers]; exact k.peers
  ownEntry := by rw [peer_of_peers h.peers, h.straps]; exact k.ownEntry
  watch := by
    obtain ⟨f, hf, _⟩ := h.watch
    rw [hf, List.length_map]
    exact k.watch
  bounds w hw := by
    obtain ⟨f, hf, hk⟩ := h.watch
    rw [hf] at hw
    obtain ⟨v, hv, rfl⟩ := List.mem_map.mp hw
    rw [hk v, h.straps]
    exact k.bounds v hv
  row := by rw [h.scan]; exact k.row
  cursor := by rw [h.port]; exact k.cursor
  mark := by rw [h.port]; exact k.mark
  contrast := by rw [h.port]; exact k.contrast
  aborts := by rw [h.bus]; exact k.aborts

theorem present_eq (w : WatchEntry) (g : Straps) (p : PlaneWrite) (id : Station × Byte) :
    w.present g p id = { w with firstHit := (w.present g p id).firstHit } := by
  unfold WatchEntry.present
  split <;> rfl

/-- A write that lands changes the draw plane, the watch table's hits and the flag WATCH alone. -/
theorem drawWrite_eq (s : State) (p : PlaneWrite) (id : Station × Byte) : s.drawWrite p id =
    State.raiseIf { s.setDrawPlane (s.drawPlane.apply p) with watch := s.watch.map fun w => w.present s.straps p id }
      (s.watch.any fun w => w.hitBy s.straps p && w.firstHit.isNone) .watch := by
  simp [State.drawWrite, State.presentWrite]

theorem draws_drawWrite (s : State) (p : PlaneWrite) (id : Station × Byte) : Draws s (s.drawWrite p id).countWrite where
  straps := by simp [drawWrite_eq]
  held := by simp [drawWrite_eq]
  bus := by simp [drawWrite_eq]
  stream := by simp [drawWrite_eq]
  members := by simp [drawWrite_eq]
  peers := by simp [drawWrite_eq]
  barrier := by simp [drawWrite_eq]
  edge := by simp [drawWrite_eq]
  scan := by simp [drawWrite_eq]
  port := by simp [drawWrite_eq]
  pending := by simp [drawWrite_eq]
  mask := by simp [drawWrite_eq]
  flags i hi := by
    rw [drawWrite_eq]
    exact (keeps_raiseIf _ _ _).flags i (by simpa using hi)
  raster := ⟨s.drawPlane.apply p, s.raster.issued + 1, by simp [drawWrite_eq, State.countWrite], fun h => Memory.apply_wf _ _ h⟩
  watch := ⟨fun w => w.present s.straps p id, by simp [drawWrite_eq], fun w => present_eq w _ _ _⟩

theorem draws_copyWrite (s : State) : Draws s s.copyWrite where
  straps := by simp [State.copyWrite]
  held := by simp [State.copyWrite]
  bus := by simp [State.copyWrite]
  stream := by simp [State.copyWrite]
  members := by simp [State.copyWrite]
  peers := by simp [State.copyWrite]
  barrier := by simp [State.copyWrite]
  edge := by simp [State.copyWrite]
  scan := by simp [State.copyWrite]
  port := by simp [State.copyWrite]
  pending := by simp [State.copyWrite]
  mask := by simp [State.copyWrite]
  flags i hi := by simpa [State.copyWrite] using hi
  raster := ⟨_, _, rfl, fun h => Memory.write_wf _ _ _ h⟩
  watch := ⟨id, by simp [State.copyWrite], fun _ => rfl⟩

theorem draws_copyWrites (n : Nat) (s : State) : Draws s (State.copyWrites n s) := by
  induction n generalizing s with
  | zero => exact Draws.refl s
  | succ n ih => exact (draws_copyWrite s).trans (ih _)

/-- What a DRAW_PLANE_WRITE or COPY_COMPLETE can do: writes of the engine, and then its work. -/
theorem exec_draws {c : Instr} {s t : State} (hc : c = .drawPlaneWrite ∨ c = .copyComplete) (h : exec c s = .next t) :
    ∃ u, Draws s u ∧ Works u t := by
  rcases hc with rfl | rfl
  · refine of_whenRunning (R := fun s t => ∃ u, Draws s u ∧ Works u t) s ⟨s, Draws.refl s, Works.refl s⟩ ?_ h
    rcases drawNext_cases s with e | ⟨p, id, hw⟩
    · exact ⟨s, Draws.refl s, by rw [e]; exact Works.refl s⟩
    · exact ⟨_, draws_drawWrite s p id, hw⟩
  · refine of_whenRunning (R := fun s t => ∃ u, Draws s u ∧ Works u t) s ⟨s, Draws.refl s, Works.refl s⟩ ?_ h
    unfold State.finishCopy
    split
    · exact ⟨_, draws_copyWrites _ s, works_finishRecord _⟩
    · exact ⟨s, Draws.refl s, Works.refl s⟩

/-- Every command is one of these: a row of the bus or the timers, a row of the local port, a row that writes a plane, or a reset. -/
theorem instr_cases (c : Instr) : isInner c = true ∨ isPort c = true ∨ (c = .drawPlaneWrite ∨ c = .copyComplete) ∨
    ((∃ p, c = .powerOn p) ∨ ∃ p, c = .rstRisingEdge p) ∨ c = .rstAsserted := by
  cases c <;> simp [isInner, isPort]

end Sys2Proof.Machine
end

section
/-! PROOFS. What every row and every step keeps: the queue of waiting commands, the planes, the queues and the tables in their shape,
the flags, the host's settings and the sequence counter (chapters 1, 4, 8, 9 and 10). -/

namespace Sys2Proof.Machine

/-- Settles O1: the step's own equation at a queue that is not empty. -/
theorem stepRunsFront : Obligations.StepRunsFront := by
  intro c rest s h
  rw [step, h]

/-! ### The resets -/

theorem assertReset_of {s t : State} (h : exec .rstAsserted s = .next t) : t = s.assertReset := (Host.Outcome.next.inj h).symm

theorem coldReset_of {c : Instr} {s t : State} (hc : (∃ p, c = .powerOn p) ∨ ∃ p, c = .rstRisingEdge p) (h : exec c s = .next t) :
    ∃ p, t = s.coldReset p := by
  rcases hc with ⟨p, rfl⟩ | ⟨p, rfl⟩ <;> exact ⟨p, (Host.Outcome.next.inj h).symm⟩

theorem planesSound_coldReset (s : State) (p : StrapPins) : (s.coldReset p).PlanesSound := ⟨rfl, rfl, rfl⟩

theorem queuesSound_of_empty {s : State} (ho : s.stream.outbound = []) (hi : s.stream.inbound = []) (hob : s.edge.outbox = [])
    (hib : s.edge.inbox = []) (hh : s.raster.history = []) : s.QueuesSound where
  outbound := by simp [ho]
  inbound := by simp [hi]
  outbox := by simp [hob]
  inbox := by simp [hib]
  history := by simp [hh]
  place x _ _ := by simp [hi, Config.inboundPlaces]

/-- The tables of a part whose straps are those of a wall and whose tables have their reset values. -/
theorem tablesSound_afterReset (g : Straps) (hw : 1 ≤ g.w ∧ g.w ≤ 4) (hh : 1 ≤ g.h ∧ g.h ≤ 4) : (State.afterReset g).TablesSound where
  width := hw
  height := hh
  peers := rfl
  ownEntry := by simp [State.afterReset, State.peer, peersAfterReset, Peer.reset]
  watch := rfl
  bounds w hw' := by
    have he : w = WatchEntry.reset := List.eq_of_mem_replicate hw'
    subst he
    simp only [WatchEntry.reset, State.afterReset, Straps.canvasWidth, Straps.canvasHeight, Config.tileColumns, Config.tileRows]
    omega
  row := Nat.zero_le _
  cursor := ⟨Nat.zero_le _, Nat.zero_le _⟩
  mark c hc := absurd hc (by simp [State.afterReset])
  contrast := by simp [State.afterReset]
  aborts := Nat.zero_le _

theorem strapPins_wall (p : StrapPins) :
    (1 ≤ (StrapPins.record p).w ∧ (StrapPins.record p).w ≤ 4) ∧ 1 ≤ (StrapPins.record p).h ∧ (StrapPins.record p).h ≤ 4 := by
  have hw := p.tw.isLt
  have hh := p.th.isLt
  simp only [StrapPins.record]
  omega

/-- The tables are no business of the port phase, the queue, the planes, the barrier and the timers. -/
theorem TablesSound.congr {s t : State} (h1 : t.straps = s.straps) (h2 : t.peers = s.peers) (h3 : t.watch = s.watch)
    (h4 : t.scan.row = s.scan.row) (h5 : t.port.cursor = s.port.cursor) (h6 : t.port.mark = s.port.mark)
    (h7 : t.port.display = s.port.display) (h8 : t.bus.aborts = s.bus.aborts) (k : s.TablesSound) : t.TablesSound where
  width := by rw [h1]; exact k.width
  height := by rw [h1]; exact k.height
  peers := by rw [h2]; exact k.peers
  ownEntry := by rw [peer_of_peers h2, h1]; exact k.ownEntry
  watch := by rw [h3]; exact k.watch
  bounds := by rw [h3, h1]; exact k.bounds
  row := by rw [h4]; exact k.row
  cursor := by rw [h5]; exact k.cursor
  mark := by rw [h6]; exact k.mark
  contrast := by rw [h7]; exact k.contrast
  aborts := by rw [h8]; exact k.aborts

theorem tablesSound_coldReset (s : State) (p : StrapPins) : (s.coldReset p).TablesSound :=
  TablesSound.congr (s := State.afterReset (StrapPins.record p)) rfl rfl rfl rfl rfl rfl rfl rfl
    (tablesSound_afterReset _ (strapPins_wall p).1 (strapPins_wall p).2)

theorem tablesSound_assertReset {s : State} (h : s.TablesSound) : s.assertReset.TablesSound :=
  TablesSound.congr (s := State.afterReset s.straps) rfl rfl rfl rfl rfl rfl rfl rfl (tablesSound_afterReset _ h.width h.height)

/-! ### The port rows' effects -/

theorem overlayWrite_wf (s : State) (v : Byte) (h : s.port.overlay.wf = true) : (s.overlayWrite v).port.overlay.wf = true :=
  Memory.write_wf _ _ _ h

theorem overlayWrites_wf (data : List Byte) (s : State) (h : s.port.overlay.wf = true) :
    (s.overlayWrites data).port.overlay.wf = true := by
  induction data generalizing s with
  | nil => exact h
  | cons v data ih => exact ih _ (overlayWrite_wf s v h)

/-- A port row's effect changes no byte of the overlay but by WRITE OVERLAY. -/
theorem portEffect_overlay {c : Instr} (hc : ∀ d r, c ≠ .writeOverlay d r) (u : State) :
    (portEffect c u).port.overlay = u.port.overlay := by
  cases c
  case writeOverlay d r => exact absurd rfl (hc d r)
  case readPeer => dsimp only [portEffect]; split <;> rfl
  case readWatch => dsimp only [portEffect]; split <;> rfl
  case post => dsimp only [portEffect]; split <;> rfl
  case clearEvents => dsimp only [portEffect, State.clearFlags]; split <;> rfl
  case setWatch => dsimp only [portEffect, State.takeWatch]; split <;> rfl
  case setCursor => dsimp only [portEffect]; split <;> rfl
  case editEnd => dsimp only [portEffect]; split <;> rfl
  case setDisplay => dsimp only [portEffect]; split <;> rfl
  all_goals rfl

theorem portEffect_planesSound (c : Instr) {u : State} (h : u.PlanesSound) : (portEffect c u).PlanesSound := by
  have k := portKeeps_effect c u
  refine ⟨by rw [k.planeA]; exact h.planeA, by rw [k.planeB]; exact h.planeB, ?_⟩
  by_cases hc : ∃ d r, c = .writeOverlay d r
  · obtain ⟨d, r, rfl⟩ := hc
    exact overlayWrites_wf d u h.overlay
  · rw [portEffect_overlay (fun d r e => hc ⟨d, r, e⟩)]
    exact h.overlay

theorem postResult_accepted {s : State} {r : List Byte} (h : s.postResult r = .accepted) :
    s.stream.outbound.length < Config.outboundPlaces := by
  unfold State.postResult at h
  split at h
  · simp at h
  · split at h
    all_goals first
      | (simp at h; done)
      | (split at h
         · simp at h
         · omega)

theorem queuesSound_takePost {s : State} (r : List Byte) (h : s.QueuesSound) : (s.takePost r).QueuesSound where
  outbound := by
    unfold State.takePost
    dsimp only
    split
    · rename_i ha
      have := postResult_accepted ha
      rw [List.length_append, List.length_singleton]
      omega
    · exact h.outbound
  inbound := h.inbound
  outbox := h.outbox
  inbox := h.inbox
  history := h.history
  place := h.place

theorem queuesSound_softResetAll (s : State) : s.softResetAll.QueuesSound := queuesSound_of_empty rfl rfl rfl rfl rfl

theorem portEffect_queuesSound (c : Instr) {u : State} (h : u.QueuesSound) : (portEffect c u).QueuesSound := by
  cases c
  case softReset => exact queuesSound_softResetAll u
  case post r =>
    dsimp only [portEffect]
    split
    · exact queuesSound_takePost _ h
    · exact { h with }
  case readPeer => dsimp only [portEffect]; split <;> exact { h with }
  case readWatch => dsimp only [portEffect]; split <;> exact { h with }
  case clearEvents => dsimp only [portEffect, State.clearFlags]; split <;> exact { h with }
  case setWatch => dsimp only [portEffect, State.takeWatch]; split <;> exact { h with }
  case setCursor => dsimp only [portEffect]; split <;> exact { h with }
  case writeOverlay d r => dsimp only [portEffect]; rw [overlayWrites_frame]; exact { h with }
  case editEnd => dsimp only [portEffect]; split <;> exact { h with }
  case setDisplay => dsimp only [portEffect]; split <;> exact { h with }
  all_goals exact { h with }

theorem Cursor.advance_inRange {c : Cursor} (h : c.inRange) : c.advance.inRange := ⟨h.1, by simp [Cursor.advance]⟩

theorem overlayWrites_cursor_inRange (data : List Byte) (s : State) (h : s.port.cursor.inRange) :
    (s.overlayWrites data).port.cursor.inRange := by
  induction data generalizing s with
  | nil => exact h
  | cons v data ih => exact ih _ (Cursor.advance_inRange h)

theorem overlayLoads_inRange (m : Memory) (editing : Bool) (n : Nat) (c : Cursor) (h : c.inRange) :
    (overlayLoads m editing n c).2.inRange := by
  induction n generalizing c with
  | zero => exact h
  | succ n ih =>
    refine ih _ ?_
    unfold Cursor.afterRead
    split
    · exact h
    · exact Cursor.advance_inRange h

theorem parseDisplay_contrast {m c q : Byte} {d : Display} (h : parseDisplay m c q = some d) : d.contrast ≤ 15 := by
  unfold parseDisplay at h
  split at h
  · split at h
    · rename_i hq
      rw [← Option.some.inj h]
      exact hq
    · simp at h
  · simp at h

/-- The watch table changed, its entries on the canvas. -/
theorem State.TablesSound.withWatch {s : State} (k : s.TablesSound) (l : List WatchEntry) (hl : l.length = 4)
    (hb : ∀ w ∈ l, w.x0 ≤ w.x1 ∧ w.x1 < s.straps.canvasWidth ∧ w.y0 ≤ w.y1 ∧ w.y1 < s.straps.canvasHeight) :
    State.TablesSound { s with watch := l } :=
  { k with watch := hl, bounds := hb }

theorem tablesSound_takeWatch {s : State} (e en : Byte) (x0 : Half) (y0 : Byte) (x1 : Half) (y1 : Byte) (k : s.TablesSound) :
    (s.takeWatch e en x0 y0 x1 y1).TablesSound := by
  unfold State.takeWatch
  split
  · rename_i ha
    obtain ⟨_, hx, hx', hy, hy'⟩ := of_decide_eq_true ha
    refine k.withWatch _ (by rw [List.length_set]; exact k.watch) fun w hw => ?_
    rcases List.mem_or_eq_of_mem_set hw with hw | rfl
    · exact k.bounds w hw
    · exact ⟨hx, hx', hy, hy'⟩
  · exact { k with }

theorem mem_clearHits {sel : Byte} {l : List WatchEntry} {w : WatchEntry} (h : w ∈ clearHits sel l) :
    ∃ v ∈ l, w = v ∨ w = { v with firstHit := none } := by
  unfold clearHits at h
  obtain ⟨i, hi, rfl⟩ := List.mem_mapIdx.mp h
  refine ⟨l[i], List.getElem_mem hi, ?_⟩
  split
  · exact .inr rfl
  · exact .inl rfl

theorem tablesSound_clearHits {s : State} (sel : Byte) (k : s.TablesSound) :
    State.TablesSound { s with watch := clearHits sel s.watch } := by
  refine k.withWatch _ (by rw [clearHits, List.length_mapIdx]; exact k.watch) fun w hw => ?_
  obtain ⟨v, hv, rfl | rfl⟩ := mem_clearHits hw
  · exact k.bounds _ hv
  · exact k.bounds v hv

theorem ownSound_clearMarks {s : State} (k : s.ownSound) : (s.mapPeers fun p => { p with diverged := false }).ownSound :=
  ownSound_mapPeers (fun _ h1 h2 h3 => ⟨h1, h2, h3⟩) k

theorem tablesSound_clearFlags {s : State} (mask : Half) (k : s.TablesSound) : (s.clearFlags mask).TablesSound := by
  unfold State.clearFlags
  dsimp only
  split
  · exact
      { k with
        peers := by rw [State.mapPeers, List.length_map]; exact k.peers
        ownEntry := ownSound_clearMarks (s := s) k.ownEntry }
  · exact { k with }

theorem tablesSound_softResetAll {s : State} (k : s.TablesSound) : s.softResetAll.TablesSound where
  width := k.width
  height := k.height
  peers := rfl
  ownEntry := by simp [State.softResetAll, State.peer, peersAfterReset, Peer.reset]
  watch := by simp [State.softResetAll, k.watch]
  bounds w hw := by
    obtain ⟨v, hv, rfl⟩ := List.mem_map.mp hw
    exact k.bounds v hv
  row := k.row
  cursor := ⟨Nat.zero_le _, Nat.zero_le _⟩
  mark c hc := absurd hc (by simp [State.softResetAll])
  contrast := k.contrast
  aborts := Nat.zero_le _

theorem portEffect_tablesSound (c : Instr) {u : State} (h : u.TablesSound) : (portEffect c u).TablesSound := by
  cases c
  case softReset => exact tablesSound_softResetAll h
  case post r => dsimp only [portEffect]; split <;> exact { h with }
  case readPeer => dsimp only [portEffect]; split <;> exact { h with }
  case readWatch => dsimp only [portEffect]; split <;> exact { h with }
  case clearEvents mask => exact tablesSound_clearFlags mask h
  case setWatch e en x0 y0 x1 y1 => exact tablesSound_takeWatch e en x0 y0 x1 y1 h
  case clearWatchHits sel => exact tablesSound_clearHits sel h
  case setCursor b k =>
    dsimp only [portEffect]
    split
    · rename_i hr
      exact { h with cursor := hr }
    · exact { h with }
  case writeOverlay d r =>
    have hc := overlayWrites_cursor_inRange d u h.cursor
    dsimp only [portEffect]
    rw [overlayWrites_frame]
    exact { h with cursor := hc }
  case readOverlay n r => exact { h with cursor := overlayLoads_inRange _ _ n _ h.cursor }
  case editBegin => exact { h with mark := fun c hc => by rw [← Option.some.inj hc]; exact h.cursor }
  case editEnd =>
    dsimp only [portEffect]
    split
    · rename_i c hc
      exact { h with cursor := h.mark c hc, mark := fun c' hc' => absurd hc' (by simp) }
    · exact h
  case setDisplay m k q =>
    dsimp only [portEffect]
    split
    · rename_i d hd
      exact { h with contrast := parseDisplay_contrast hd }
    · exact { h with }
  all_goals exact { h with }

/-! ### Every row keeps what is sound -/

theorem exec_planesSound {c : Instr} {s t : State} (h : exec c s = .next t) (k : s.PlanesSound) : t.PlanesSound := by
  rcases instr_cases c with hc | hc | hc | hc | hc
  · have hk := (exec_preserves s hc h).keeps
    exact ⟨by rw [hk.planeA]; exact k.planeA, by rw [hk.planeB]; exact k.planeB, by rw [hk.port]; exact k.overlay⟩
  · exact (exec_portRow s hc h).of (P := State.PlanesSound) (fun _ _ _ h => { h with }) (fun _ => portEffect_planesSound c) k
  · obtain ⟨u, hd, hw⟩ := exec_draws hc h
    have hu := hd.planes k
    exact ⟨by rw [hw.keeps.planeA]; exact hu.planeA, by rw [hw.keeps.planeB]; exact hu.planeB,
      by rw [hw.keeps.port]; exact hu.overlay⟩
  · obtain ⟨p, rfl⟩ := coldReset_of hc h
    exact planesSound_coldReset s p
  · subst hc
    rw [assertReset_of h]
    exact { k with }

theorem exec_queuesSound {c : Instr} {s t : State} (h : exec c s = .next t) (k : s.QueuesSound) : t.QueuesSound := by
  rcases instr_cases c with hc | hc | hc | hc | hc
  · exact (exec_preserves s hc h).queues k
  · exact (exec_portRow s hc h).of (P := State.QueuesSound) (fun _ _ _ h => { h with }) (fun _ => portEffect_queuesSound c) k
  · obtain ⟨u, hd, hw⟩ := exec_draws hc h
    exact hw.sound.queues (hd.queues k)
  · obtain ⟨p, rfl⟩ := coldReset_of hc h
    exact queuesSound_of_empty rfl rfl rfl rfl rfl
  · subst hc
    rw [assertReset_of h]
    exact queuesSound_of_empty rfl rfl rfl rfl rfl

theorem exec_tablesSound {c : Instr} {s t : State} (h : exec c s = .next t) (k : s.TablesSound) : t.TablesSound := by
  rcases instr_cases c with hc | hc | hc | hc | hc
  · exact (exec_preserves s hc h).tables k
  · exact (exec_portRow s hc h).of (P := State.TablesSound) (fun _ _ _ h => { h with }) (fun _ => portEffect_tablesSound c) k
  · obtain ⟨u, hd, hw⟩ := exec_draws hc h
    exact hw.sound.tables (hd.tables k)
  · obtain ⟨p, rfl⟩ := coldReset_of hc h
    exact tablesSound_coldReset s p
  · subst hc
    rw [assertReset_of h]
    exact tablesSound_assertReset k

/-! ### A step on an empty queue -/

/-- What the line's part of a bit time can change: the line's own state, with rows put in the queue; a transaction that owes a delivery
owed it before. -/
structure LineMoves (s t : State) : Prop where
  rest : ∃ l, t = { s with bus := t.bus, pending := s.pending ++ l }
  aborts : t.bus.aborts = s.bus.aborts
  owes : ∀ y, t.bus.tx = some y → y.owesDelivery = true → ∃ x, s.bus.tx = some x ∧ x.owesDelivery = true

theorem lineMoves_enqueue (s : State) (l : List Instr) : LineMoves s (s.enqueue l) := ⟨⟨l, rfl⟩, rfl, fun y hy ho => ⟨y, hy, ho⟩⟩

theorem lineMoves_setFraming (s : State) (f : Framing) : LineMoves s (s.setFraming f) :=
  ⟨⟨[], by simp [State.setFraming]⟩, rfl, fun y hy ho => ⟨y, hy, ho⟩⟩

theorem lineMoves_setTx {s : State} {x : Txn} (hx : s.bus.tx = some x) (f : Framing) (y : Option Txn)
    (h : ∀ z, y = some z → z.owesDelivery = true → x.owesDelivery = true) : LineMoves s ((s.setFraming f).setTx y) :=
  ⟨⟨[], by simp [State.setFraming, State.setTx]⟩, rfl, fun z hz ho => ⟨x, hx, h z hz ho⟩⟩

theorem lineMoves_hear (s : State) (b : LineBit) : LineMoves s (s.hear b) := by
  unfold State.hear
  dsimp only
  split
  · rename_i row _
    split
    · exact ⟨⟨[row], rfl⟩, rfl, fun y hy ho => ⟨y, hy, ho⟩⟩
    · exact lineMoves_enqueue s _
  · exact lineMoves_setFraming s _

/-- The CRC of an attempt whose record is delivered already, or is no CANVAS: the ack field begins. -/
theorem lineMoves_completeCrc {s : State} {x : Txn} (h : ¬ (x.owner = .canvas ∧ x.crcDone = false)) :
    LineMoves s (s.completeCrc x) := by
  rw [completeCrc_again s h]
  exact ⟨⟨[], by simp [State.setFraming, State.setTx]⟩, rfl, fun y hy ho => by
    rw [← Option.some.inj hy] at ho
    simp [Txn.owesDelivery] at ho⟩

theorem lineMoves_transmitBit {s : State} {x : Txn} (hx : s.bus.tx = some x) (b : LineBit) : LineMoves s (s.transmitBit x b) := by
  unfold State.transmitBit
  dsimp only
  split
  case h_1 p hp =>
    split
    · exact lineMoves_setTx hx _ _ fun z hz => absurd hz (by simp)
    · split
      · exact lineMoves_enqueue s _
      · split
        · split
          · exact lineMoves_enqueue s _
          · exact lineMoves_completeCrc ‹_›
        · exact lineMoves_setTx hx _ _ fun z hz ho => by rwa [← Option.some.inj hz] at ho
  case h_2 p slots hp =>
    generalize (if b.readsZero = true then slots ++ [Fin.ofNat 16 p] else slots) = l
    split
    · exact lineMoves_enqueue s _
    · exact lineMoves_setTx hx _ _ fun z hz ho => by rwa [← Option.some.inj hz] at ho
  case h_3 p complete hp =>
    split
    · exact lineMoves_enqueue s _
    · split
      · exact lineMoves_enqueue s _
      · exact lineMoves_setTx hx _ _ fun z hz ho => by rwa [← Option.some.inj hz] at ho
  case h_4 wait left soft hp =>
    split
    · exact lineMoves_setTx hx _ _ fun z hz ho => by rwa [← Option.some.inj hz] at ho
    · split
      · exact lineMoves_enqueue s _
      · exact lineMoves_setTx hx _ _ fun z hz ho => by rwa [← Option.some.inj hz] at ho

theorem lineMoves_lineBit (s : State) (b : LineBit) : LineMoves s (s.lineBit b) := by
  unfold State.lineBit
  split
  · exact lineMoves_transmitBit ‹_› b
  · exact lineMoves_hear s b

/-! ### A step on an empty queue keeps what is sound -/

/-- A property of the part that the line's part of a bit time, the timers, a copy write and a row put in the queue keep, a step on an
empty queue keeps. -/
theorem tick_of {P : State → Prop} (hline : ∀ u v, LineMoves u v → P u → P v) (htime : ∀ u, P u → P u.advanceTimers)
    (hcopy : ∀ u v, Draws u v → P u → P v) (s : State) (h : P s) : P s.tick := by
  have hq (u : State) (l : List Instr) : P u → P (u.enqueue l) := hline _ _ (lineMoves_enqueue u l)
  unfold State.tick whenRunning
  dsimp only
  split
  · exact h
  · split
    · exact hq s _ h
    · unfold State.bitTime
      dsimp only
      refine hq _ _ ?_
      have ht := htime _ (hline _ _ (lineMoves_lineBit s s.ownBit) h)
      unfold State.copyStep
      split
      · exact hcopy _ _ (draws_copyWrite _) ht
      · exact ht

/-- A property of the part that every row keeps, whatever waits in the queue, and a step on an empty queue, every step keeps. -/
theorem step_of {P : State → Prop} (hq : ∀ s l, P s → P { s with pending := l }) (htick : ∀ s, P s → P s.tick)
    (hexec : ∀ c s t, exec c s = .next t → P s → P t) {s t : State} (hs : P s) (h : step s = .next t) : P t := by
  cases hp : s.pending with
  | nil =>
    have e : step s = .next s.tick := by rw [step, hp]
    exact Host.Outcome.next.inj (e.symm.trans h) ▸ htick s hs
  | cons c rest => exact hexec c _ t ((stepRunsFront c rest s hp).symm.trans h) (hq s rest hs)

theorem LineMoves.planes {u v : State} (h : LineMoves u v) (k : u.PlanesSound) : v.PlanesSound := by
  obtain ⟨l, e⟩ := h.rest
  rw [e]
  exact { k with }

theorem LineMoves.queues {u v : State} (h : LineMoves u v) (k : u.QueuesSound) : v.QueuesSound := by
  have ho := h.owes
  obtain ⟨l, e⟩ := h.rest
  rw [e]
  exact { k with
    place := fun y hy hoy => by
      obtain ⟨x, hx, hox⟩ := ho y hy hoy
      exact k.place x hx hox }

theorem LineMoves.tables {u v : State} (h : LineMoves u v) (k : u.TablesSound) : v.TablesSound := by
  have ha := h.aborts
  obtain ⟨l, e⟩ := h.rest
  rw [e]
  exact { k with aborts := ha ▸ k.aborts }

theorem advanceTimers_peers (s : State) : s.advanceTimers.peers =
    (s.mapPeers fun p => { p with silence := advanceTimer p.silence s.straps.bitUnits }).peers := rfl

theorem tablesSound_advanceTimers {s : State} (k : s.TablesSound) : s.advanceTimers.TablesSound := by
  have own : (s.mapPeers fun p => { p with silence := advanceTimer p.silence s.straps.bitUnits }).ownSound :=
    ownSound_mapPeers (fun p h1 h2 h3 => ⟨h1, by rw [h2]; rfl, h3⟩) k.ownEntry
  exact
    { k with
      peers := by rw [advanceTimers_peers, State.mapPeers, List.length_map]; exact k.peers
      ownEntry := own }

/-- Settles O9: every row keeps the planes canonical, and so does a bit time, whose one write is a copy's. -/
theorem stepKeepsPlanesSound : Obligations.StepKeepsPlanesSound := fun _ _ hs h =>
  step_of (P := State.PlanesSound) (fun _ _ k => { k with })
    (tick_of (fun _ _ => LineMoves.planes) (fun _ k => { k with }) fun _ _ => Draws.planes)
    (fun _ _ _ => exec_planesSound) hs h

/-- Settles O10: every row keeps the queues within their places, and a bit time puts nothing in them. -/
theorem stepKeepsQueuesSound : Obligations.StepKeepsQueuesSound := fun _ _ hs h =>
  step_of (P := State.QueuesSound) (fun _ _ k => { k with })
    (tick_of (fun _ _ => LineMoves.queues) (fun _ k => { k with }) fun _ _ => Draws.queues)
    (fun _ _ _ => exec_queuesSound) hs h

/-- Settles O11: every row keeps the tables' shape, and a bit time counts timers alone. -/
theorem stepKeepsTablesSound : Obligations.StepKeepsTablesSound := fun _ _ hs h =>
  step_of (P := State.TablesSound) (fun _ _ k => { k with })
    (tick_of (fun _ _ => LineMoves.tables) (fun _ => tablesSound_advanceTimers) fun _ _ => Draws.tables)
    (fun _ _ _ => exec_tablesSound) hs h

end Sys2Proof.Machine
end

section
/-! PROOFS. The whole-machine rules: the queue of waiting commands, the reset state, who writes the planes, the flags, the host's
settings and the sequence counter. -/

namespace Sys2Proof.Machine

/-- Settles O2, by the kinds of rows: none of them touches the queue. -/
theorem commandsLeaveQueue : Obligations.CommandsLeaveQueue := by
  intro c s t h
  rcases instr_cases c with hc | hc | hc | hc | rfl
  · exact (exec_preserves s hc h).keeps.pending
  · exact (exec_portKeeps hc h).pending
  · obtain ⟨u, hd, hw⟩ := exec_draws hc h
    rw [hw.keeps.pending, hd.pending]
  · obtain ⟨p, rfl⟩ := coldReset_of hc h
    rfl
  · rw [assertReset_of h]
    rfl

/-! ### The reset state -/

theorem afterReset_eq (g : Straps) : State.afterReset g =
    { straps := g, held := false, pending := []
      bus := { tx := none, aborts := 0
               framing := { stage := .unsynced, recRun := 0, domRun := 0, gap := 0, requiredGap := 11, position := 0, bits := []
                            ackDue := false } }
      stream := { outbound := [], inbound := [], counter := 0, epoch := 0, lastPost := .accepted }
      members := { station := if g.n.val < g.w * g.h then .listening else .strapFault
                   listenTimer := if g.n.val < g.w * g.h then some 0 else none
                   beaconTimer := none, hello := none, divergence := none }
      peers := stations.map fun n => { state := if n = g.n then .self else .absent, silence := none, expected := none
                                       applied := none, voted := none, diverged := false }
      raster := { planeA := [], planeB := [], engine := .idle, issued := 0, digest := 0, history := [], mark := .partialPicture }
      barrier := { shown := .a, committed := 0, voted := 0, slot := none, pending := none, timer := none, late := []
                   pendingVote := none }
      edge := { shift := none, outbox := [], inbox := [], timer := none }
      scan := { row := 0, timer := some 0, out := .notSelected }
      port := { phase := .idle, out := [], overlay := [], cursor := { band := 0, column := 0 }, mark := none
                display := { mode := .off, combine := .none, contrast := 8 } }
      watch := List.replicate 4 { enabled := false, x0 := 0, y0 := 0, x1 := 0, y1 := 0, firstHit := none }
      events := { flags := Event.frame.bit, mask := 0 } } := by
  have hflags : Event.frame.bit = 1 := by decide
  have hpeers : peersAfterReset g.n = stations.map fun n =>
      { state := if n = g.n then .self else .absent, silence := none, expected := none, applied := none, voted := none
        diverged := false } := by
    simp [peersAfterReset, Peer.reset]
  simp only [State.afterReset, hflags, hpeers, Straps.fits, decide_eq_true_eq]
  rfl

theorem afterReset_phase (p : PortPhase) : p.afterReset = if p = .idle then .idle else .waitRise := by cases p <;> rfl

/-- Settles O12: the reset state written out, its empty blocks sound, and the resets answering it whatever went before. -/
theorem resetIsSound : Obligations.ResetIsSound := by
  refine ⟨afterReset_eq, fun pins => ⟨⟨rfl, rfl, rfl⟩, queuesSound_of_empty rfl rfl rfl rfl rfl, ?_, ?_⟩, rfl⟩
  · exact tablesSound_afterReset _ (strapPins_wall pins).1 (strapPins_wall pins).2
  · intro s t ht
    have hcold : s.coldReset pins = t := by rw [ht, ← afterReset_phase]; rfl
    exact ⟨congrArg Host.Outcome.next hcold, congrArg Host.Outcome.next hcold⟩

/-! ### The planes, the flags and the settings -/

theorem plane_congr {s t : State} (ha : t.raster.planeA = s.raster.planeA) (hb : t.raster.planeB = s.raster.planeB) (p : PlaneName) :
    t.plane p = s.plane p := by
  cases p
  · exact ha
  · exact hb

/-- A row that keeps both planes shows what was shown, unless it exchanges the roles with COMMIT. -/
theorem shows_of_planes {s t : State} (ha : t.raster.planeA = s.raster.planeA) (hb : t.raster.planeB = s.raster.planeB)
    (h : t.barrier.shown = s.barrier.shown ∨ t.flagSet .commit = true) :
    t.plane s.barrier.shown = s.shownPlane ∧ t.plane s.barrier.shown.other = s.drawPlane ∧
      (t.barrier.shown = s.barrier.shown ∧ t.shownPlane = s.shownPlane ∨ t.flagSet .commit = true) :=
  ⟨plane_congr ha hb _, plane_congr ha hb _, h.imp_left fun e => ⟨e, by
    unfold State.shownPlane
    rw [e]
    exact plane_congr ha hb _⟩⟩

/-- Settles O13, by the kinds of rows: only the engine's writes touch a plane, and only a commit the role pointer. -/
theorem onlyTheEngineWritesTheDrawPlane : Obligations.OnlyTheEngineWritesTheDrawPlane := by
  intro c s t h h1 h2
  rcases instr_cases c with hc | hc | hc | hc | rfl
  · have k := exec_preserves s hc h
    obtain ⟨a, b, d⟩ := shows_of_planes k.keeps.planeA k.keeps.planeB k.shown
    exact ⟨a, fun _ _ => b, d⟩
  · have k := exec_portKeeps hc h
    obtain ⟨a, b, d⟩ := shows_of_planes k.planeA k.planeB (.inl k.shown)
    exact ⟨a, fun _ _ => b, d⟩
  · obtain ⟨u, hd, hw⟩ := exec_draws hc h
    have hshown : t.plane s.barrier.shown = s.shownPlane := by
      rw [plane_congr hw.keeps.planeA hw.keeps.planeB, hd.shownPlane]
    refine ⟨hshown, fun n1 n2 => absurd hc (by simp [n1, n2]), ?_⟩
    rcases hw.shown with e | e
    · have e' : t.barrier.shown = s.barrier.shown := by rw [e, hd.barrier]
      exact .inl ⟨e', by rw [State.shownPlane, e', hshown]⟩
    · exact .inr e
  · rcases hc with ⟨p, rfl⟩ | ⟨p, rfl⟩
    · exact absurd rfl (h1 p)
    · exact absurd rfl (h2 p)
  · rw [assertReset_of h]
    obtain ⟨a, b, d⟩ := shows_of_planes (s := s) (t := s.assertReset) rfl rfl (.inl rfl)
    exact ⟨a, fun _ _ => b, d⟩

theorem flagSet_of_raise {s : State} {a b : Event} (h : s.flagSet b = true) : (s.raise a).flagSet b = true := by
  simp [h]

/-- Of the port rows' effects only CLEAR EVENTS and a soft reset clear a flag. -/
theorem portEffect_flags {c : Instr} (h1 : ∀ m, c ≠ .clearEvents m) (h2 : c ≠ .softReset) {u : State} {e : Event}
    (h : u.flagSet e = true) : (portEffect c u).flagSet e = true := by
  cases c
  case clearEvents m => exact absurd rfl (h1 m)
  case softReset => exact absurd rfl h2
  case unknownOpcode => exact flagSet_of_raise h
  case shortTransaction => exact flagSet_of_raise h
  case writeOverlayPartialByte => exact flagSet_of_raise h
  case readPeer => dsimp only [portEffect]; split; exacts [h, flagSet_of_raise h]
  case readWatch => dsimp only [portEffect]; split; exacts [h, flagSet_of_raise h]
  case post => dsimp only [portEffect]; split; exacts [h, flagSet_of_raise h]
  case setWatch => dsimp only [portEffect, State.takeWatch]; split; exacts [h, flagSet_of_raise h]
  case setCursor => dsimp only [portEffect]; split; exacts [h, flagSet_of_raise h]
  case setDisplay => dsimp only [portEffect]; split; exacts [h, flagSet_of_raise h]
  case writeOverlay d r => dsimp only [portEffect]; rw [overlayWrites_frame]; exact h
  case editEnd => dsimp only [portEffect]; split <;> exact h
  all_goals exact h

/-- Settles O14, by the kinds of rows: flags are raised, and cleared by the named commands alone. -/
theorem flagsAreSticky : Obligations.FlagsAreSticky := by
  intro c s t e h hce hsoft h1 h2 h3 hf
  rcases instr_cases c with hc | hc | hc | hc | rfl
  · exact (exec_preserves s hc h).keeps.flags _ hf
  · exact (exec_portRow s hc h).of (P := fun u => u.flagSet e = true) (fun _ _ _ k => k)
      (fun _ => portEffect_flags hce hsoft) hf
  · obtain ⟨u, hd, hw⟩ := exec_draws hc h
    exact hw.keeps.flags _ (hd.flags _ hf)
  · rcases hc with ⟨p, rfl⟩ | ⟨p, rfl⟩
    · exact absurd rfl (h1 p)
    · exact absurd rfl (h2 p)
  · exact absurd rfl h3

theorem portEffect_display {c : Instr} (hc : ∀ m k q, c ≠ .setDisplay m k q) (u : State) :
    (portEffect c u).port.display = u.port.display := by
  cases c
  case setDisplay m k q => exact absurd rfl (hc m k q)
  case readPeer => dsimp only [portEffect]; split <;> rfl
  case readWatch => dsimp only [portEffect]; split <;> rfl
  case post => dsimp only [portEffect]; split <;> rfl
  case clearEvents => dsimp only [portEffect, State.clearFlags]; split <;> rfl
  case setWatch => dsimp only [portEffect, State.takeWatch]; split <;> rfl
  case setCursor => dsimp only [portEffect]; split <;> rfl
  case writeOverlay => dsimp only [portEffect]; rw [overlayWrites_frame]
  case editEnd => dsimp only [portEffect]; split <;> rfl
  all_goals rfl

theorem portEffect_mask {c : Instr} (hc : ∀ m, c ≠ .setMask m) (u : State) : (portEffect c u).events.mask = u.events.mask := by
  cases c
  case setMask m => exact absurd rfl (hc m)
  case readPeer => dsimp only [portEffect]; split <;> rfl
  case readWatch => dsimp only [portEffect]; split <;> rfl
  case post => dsimp only [portEffect]; split <;> rfl
  case clearEvents => dsimp only [portEffect, State.clearFlags]; split <;> rfl
  case setWatch => dsimp only [portEffect, State.takeWatch]; split <;> rfl
  case setCursor => dsimp only [portEffect]; split <;> rfl
  case writeOverlay => dsimp only [portEffect]; rw [overlayWrites_frame]
  case editEnd => dsimp only [portEffect]; split <;> rfl
  case setDisplay => dsimp only [portEffect]; split <;> rfl
  all_goals rfl

/-- What SET WATCH sets in the watch table: whether each entry is enabled, and its rectangle. -/
def watchBounds (l : List WatchEntry) : List (Bool × Nat × Nat × Nat × Nat) := l.map fun w => (w.enabled, w.x0, w.y0, w.x1, w.y1)

theorem watchBounds_map {f : WatchEntry → WatchEntry} (h : ∀ w, f w = { w with firstHit := (f w).firstHit }) (l : List WatchEntry) :
    watchBounds (l.map f) = watchBounds l := by
  unfold watchBounds
  rw [List.map_map]
  exact List.map_congr_left fun w _ => by rw [Function.comp_apply, h w]

theorem watchBounds_clearHits (sel : Byte) (l : List WatchEntry) : watchBounds (clearHits sel l) = watchBounds l := by
  unfold watchBounds clearHits
  refine List.ext_getElem (by simp) fun i h1 h2 => ?_
  simp only [List.getElem_map, List.getElem_mapIdx]
  split <;> rfl

theorem portEffect_watch {c : Instr} (hc : ∀ e n a b x y, c ≠ .setWatch e n a b x y) (u : State) :
    watchBounds (portEffect c u).watch = watchBounds u.watch := by
  cases c
  case setWatch e n a b x y => exact absurd rfl (hc e n a b x y)
  case clearWatchHits sel => exact watchBounds_clearHits sel u.watch
  case softReset => exact watchBounds_map (fun _ => rfl) u.watch
  case readPeer => dsimp only [portEffect]; split <;> rfl
  case readWatch => dsimp only [portEffect]; split <;> rfl
  case post => dsimp only [portEffect]; split <;> rfl
  case clearEvents => dsimp only [portEffect, State.clearFlags]; split <;> rfl
  case setCursor => dsimp only [portEffect]; split <;> rfl
  case writeOverlay => dsimp only [portEffect]; rw [overlayWrites_frame]
  case editEnd => dsimp only [portEffect]; split <;> rfl
  case setDisplay => dsimp only [portEffect]; split <;> rfl
  all_goals rfl

/-- A part's value that a port row's effect keeps, whatever the port's transaction, the row keeps. -/
theorem PortRow.keeps {α : Type} {g : State → State} {s t : State} (h : PortRow g s t) (f : State → α)
    (hset : ∀ u p o, f (u.setPort p o) = f u) (hg : ∀ u, f (g u) = f u) : f t = f s :=
  h.of (P := fun u => f u = f s) (fun u p o k => (hset u p o).trans k) (fun u k => (hg u).trans k) rfl

/-- Settles O15, by the kinds of rows. -/
theorem hostSettingsKeepTheirOwners : Obligations.HostSettingsKeepTheirOwners := by
  intro c s t h h1 h2
  rcases instr_cases c with hc | hc | hc | hc | rfl
  · have k := (exec_preserves s hc h).keeps
    exact ⟨k.straps, fun _ => by rw [k.port], fun _ _ => by rw [k.port], fun _ _ => k.mask, fun _ _ => by rw [k.watch]⟩
  · have k := exec_portRow s hc h
    exact ⟨(exec_portKeeps hc h).straps,
      fun n => k.keeps (fun u => u.port.overlay) (fun _ _ _ => rfl) (portEffect_overlay n),
      fun _ n => k.keeps (fun u => u.port.display) (fun _ _ _ => rfl) (portEffect_display n),
      fun _ n => k.keeps (fun u => u.events.mask) (fun _ _ _ => rfl) (portEffect_mask n),
      fun _ n => k.keeps (fun u => watchBounds u.watch) (fun _ _ _ => rfl) (portEffect_watch n)⟩
  · obtain ⟨u, hd, hw⟩ := exec_draws hc h
    have k := hw.keeps
    obtain ⟨f, hf, hk⟩ := hd.watch
    exact ⟨by rw [k.straps, hd.straps], fun _ => by rw [k.port, hd.port], fun _ _ => by rw [k.port, hd.port],
      fun _ _ => by rw [k.mask, hd.mask], fun _ _ => by rw [k.watch, hf]; exact watchBounds_map hk s.watch⟩
  · rcases hc with ⟨p, rfl⟩ | ⟨p, rfl⟩
    · exact absurd rfl (h1 p)
    · exact absurd rfl (h2 p)
  · rw [assertReset_of h]
    exact ⟨rfl, fun _ => rfl, fun n => absurd rfl n, fun n => absurd rfl n, fun n => absurd rfl n⟩

/-! ### The sequence counter -/

theorem counter_endAckField (s : State) (slots : List Station) : (s.endAckField slots).stream.counter = s.stream.counter := by
  unfold State.endAckField
  split
  · split <;> rfl
  · rfl

/-- A row that tells the end of a CRC field advances the counter where the own CANVAS is delivered, and keeps it elsewhere. -/
theorem exec_endsCrc_counter {c : Instr} {s t : State} (hn : endsCrc c) (h : exec c s = .next t) :
    t.stream.counter = s.stream.counter ∨
      (t.stream.counter = s.stream.counter + 1 ∧ (c = .selfDelivery ∨ ∃ l, c = .ackFieldEnd l) ∧
        ∃ x p, s.bus.tx = some x ∧ x.owner = .canvas ∧ x.crcDone = false ∧ x.phase = .sending p) := by
  cases c
  case selfDelivery =>
    rcases exec_selfDelivery_cases s h with rfl | ⟨x, p, hx, hp, ho, hd, rfl⟩
    · exact .inl rfl
    · rcases counter_completeCrc s x with e | ⟨_, _, e⟩
      · exact .inl e
      · exact .inr ⟨e, .inl rfl, x, p, hx, ho, hd, hp⟩
  case ackFieldEnd l =>
    rcases exec_ackFieldEnd_cases s h with rfl | rfl | ⟨x, p, hx, hp, rfl⟩
    · exact .inl rfl
    · exact .inl (counter_endAckField s l)
    · rw [counter_endAckField]
      rcases counter_completeCrc s x with e | ⟨ho, hd, e⟩
      · exact .inl e
      · exact .inr ⟨e, .inr ⟨l, rfl⟩, x, p, hx, ho, hd, hp⟩
  all_goals cases hn

/-- Settles O17, by the kinds of rows: of the rows of the bus only the two that tell the end of a CRC field deliver the own record. -/
theorem counterMovesAtSelfDelivery : Obligations.CounterMovesAtSelfDelivery := by
  refine ⟨fun c s t h h1 h2 h3 => ?_, fun c s t h hc => ?_⟩
  · rcases instr_cases c with hc | hc | hc | hc | rfl
    · by_cases hn : endsCrc c
      · exact exec_endsCrc_counter hn h
      · exact .inl (exec_keepsSound s hc hn h).counter
    · exact .inl (exec_portKeeps hc h).counter
    · obtain ⟨u, hd, hw⟩ := exec_draws hc h
      exact .inl (by rw [hw.sound.counter, hd.stream])
    · rcases hc with ⟨p, rfl⟩ | ⟨p, rfl⟩
      · exact absurd rfl (h1 p)
      · exact absurd rfl (h2 p)
    · exact absurd rfl h3
  · rcases hc with ⟨p, rfl⟩ | ⟨p, rfl⟩ | rfl
    · obtain ⟨p, rfl⟩ := coldReset_of (.inl ⟨p, rfl⟩) h
      rfl
    · obtain ⟨p, rfl⟩ := coldReset_of (.inr ⟨p, rfl⟩) h
      rfl
    · rw [assertReset_of h]
      rfl

end Sys2Proof.Machine
end

section
/-! PROOFS. The ack decision: what the membership unit, the receptions and the rows of the line make of the line's own state (chapters 3
to 7). -/

namespace Sys2Proof.Machine

variable (s : State)

/-! ### What leaves the line as it is -/

theorem enterOutOfStep_bus : s.enterOutOfStep.bus = s.bus := ((works_abandonWaits _).trans (works_leaveIfDrained _)).bus

theorem enterListening_bus : s.enterListening.bus = s.bus := (works_rosterChanged _).bus

theorem dropPeers_bus (gone : List Station) : (s.dropPeers gone).bus = s.bus := by
  rw [dropPeers_eq, State.raiseIf_bus]

theorem enterMember_bus (acked : List Station) : (s.enterMember acked).bus = s.bus :=
  (works_rosterChanged _).bus.trans (dropPeers_bus s _)

theorem removePeer_bus (n : Station) (d : PeerState) : (s.removePeer n d).bus = s.bus := by
  unfold State.removePeer
  dsimp only
  split
  · exact (works_rosterChanged _).bus
  · rfl

theorem reportGap_bus : s.reportGap.bus = s.bus := by
  unfold State.reportGap
  split <;> rfl

theorem observeCanvas_bus (m : Received) : (s.observeCanvas m).bus = s.bus := by
  unfold State.observeCanvas
  dsimp only
  split
  · exact reportGap_bus _
  · rfl

theorem observeOther_bus (n : Station) (q : Byte) : (s.observeOther n q).bus = s.bus := by
  unfold State.observeOther
  split
  · exact reportGap_bus _
  · rfl

theorem takeStrip_bus (p : EdgePayload) : (s.takeStrip p).bus = s.bus := by
  unfold State.takeStrip
  split <;> rfl

theorem dropAfter_bus (o : Outcome) (acked : List Station) : (s.dropAfter o acked).bus = s.bus := by
  unfold State.dropAfter
  split
  · exact dropPeers_bus s _
  · exact dropPeers_bus s _
  · rfl
  · rfl

theorem ownerEnds_bus (t : Txn) (o : Outcome) (fourth : Bool) : (s.ownerEnds t o fourth).bus = s.bus := by
  unfold State.ownerEnds
  split
  · split
    · rw [(works_rosterChanged _).bus, dropAfter_bus]
      rfl
    · exact (works_evaluateCommit _).bus
  · split
    · rw [(works_rosterChanged _).bus, dropAfter_bus]
      simp [State.removeOutbound]
    · simp [State.removeOutbound]
  · rw [(works_recheckOutbox _).bus]
    simp
  · rfl
  · split
    · rfl
    · exact enterMember_bus s _
  · split
    · rfl
    · exact enterListening_bus s

theorem diverge_bus (r : DivergenceRecord) : (s.diverge r).bus = s.bus := by
  unfold State.diverge
  dsimp only
  split <;> rfl

theorem checkGeometry_bus (o : Station) (g : Byte) (blocks : State → State) (h : (blocks s).bus = s.bus) :
    (s.checkGeometry o g blocks).bus = s.bus := by
  unfold State.checkGeometry
  split
  · exact h
  · exact removePeer_bus _ o .foreign

theorem unlessForeign_bus (m : Received) (blocks : State → State) (h : (blocks s).bus = s.bus) :
    (s.unlessForeign m blocks).bus = s.bus := by
  unfold State.unlessForeign
  split
  · rfl
  · exact h

/-! ### The blocks of a station that is not MEMBER -/

variable {s}

theorem judgeCanvas_bus (h : s.isMember = false) (m : Received) : (s.judgeCanvas m).bus = s.bus := by
  unfold State.judgeCanvas
  rw [if_neg (by simp [h])]
  split
  · exact observeCanvas_bus s m
  · rfl

theorem judgeVote_bus (h : s.isMember = false) (m : Received) : (s.judgeVote m).bus = s.bus := by
  unfold State.judgeVote
  rw [if_neg (by simp [h])]
  split
  · split
    · exact observeOther_bus s _ _
    · exact observeOther_bus s _ _
  · rfl

theorem judgeEdge_bus (h : s.isMember = false) (m : Received) : (s.judgeEdge m).bus = s.bus := by
  unfold State.judgeEdge
  rw [if_neg (by simp [h])]
  split
  · exact observeOther_bus s _ _
  · rfl

theorem malformedHello_bus (m : Received) : (s.malformedHello m).bus = s.bus := by
  unfold State.malformedHello
  split
  · rfl
  · split
    · split
      · exact enterOutOfStep_bus s
      · rfl
    · split
      · exact observeOther_bus s _ _
      · rfl

theorem observeCandidate_bus (o : Station) : (s.observeCandidate o).bus = s.bus := by
  unfold State.observeCandidate
  split
  · rfl
  · exact (works_rosterChanged _).bus

theorem judgeBeacon_bus (h : s.isMember = false) (m : Received) (e v c : Epoch) (d : BitVec 32) (b : Bool) :
    (s.judgeBeacon m e v c d b).bus = s.bus := by
  unfold State.judgeBeacon
  dsimp only
  rw [if_neg (c := s.isMember = true) (by simp [h])]
  split
  · rfl
  · split
    · exact (observeCandidate_bus _).trans (observeOther_bus s _ _)
    · rfl

theorem judgeJoin_bus (h : s.isMember = false) (m : Received) (e : Epoch) : (s.judgeJoin m e).bus = s.bus := by
  have h' : (s.setPeer m.originator Peer.clearForeign).isMember = false := h
  unfold State.judgeJoin
  dsimp only
  rw [if_neg (by simp [h'])]
  split
  · exact (works_afterJoin _ _).bus
  · rfl

theorem judgeLeave_bus (h : s.isMember = false) (m : Received) : (s.judgeLeave m).bus = s.bus := by
  unfold State.judgeLeave
  dsimp only
  rw [if_neg (c := s.isMember = true) (by simp [h])]
  split
  · rfl
  · split
    · exact (removePeer_bus _ _ _).trans (observeOther_bus s _ _)
    · exact removePeer_bus _ _ _

/-! ### The ack that is due -/

/-- No ack slot is to be driven. -/
def State.ackless (s : State) : Prop := s.bus.framing.ackDue = false

theorem ackless_congr {t : State} (h : t.bus = s.bus) (k : s.ackless) : t.ackless := by
  unfold State.ackless
  rw [h]
  exact k

theorem follow_ackDue {f : Framing} (h : f.ackDue = false) (b : LineBit) : (f.follow b).ackDue = false := by
  have hc (b : LineBit) : (f.count b).ackDue = false := by unfold Framing.count; split <;> exact h
  have hs (b : LineBit) : (f.countSlot b).ackDue = false := by unfold Framing.countSlot; split <;> exact h
  unfold Framing.follow
  dsimp only
  split
  · split
    · rfl
    · split
      · rfl
      · exact hc b
  · split
    · rfl
    · exact hc _
  · split
    · rfl
    · exact hc b
  · split
    · exact hs _
    · exact hs _
  · split
    · split <;> rfl
    · split
      · exact hc _
      · rfl
  · split
    · exact hc _
    · rfl

theorem arbitrated_ackDue (field : BitVec 6) : (arbitrated field).ackDue = false := by
  have h (l : List Bool) : ∀ f : Framing, f.ackDue = false →
      (l.foldl (fun f bit => f.follow (.coded (!bit))) f).ackDue = false := by
    induction l with
    | nil => exact fun f hf => hf
    | cons b l ih => exact fun f hf => ih _ (follow_ackDue hf _)
  exact h _ Framing.startBit rfl

theorem quiet_ackDue {f : Framing} (h : f.ackDue = false) (own : Option Station) : (f.quiet own).ackDue = false := by
  unfold Framing.quiet
  split
  all_goals first | rfl | exact h

theorem ackless_placeLine (h : s.ackless) : s.placeLine.ackless := by
  rcases placeLine_cases s with e | e <;> rw [e]
  · exact h
  · unfold State.ackless
    rw [leaveMessage_bus]
    exact quiet_ackDue h _

theorem ackless_beforeMessage (a : BitVec 3) (h : s.ackless) : (s.beforeMessage a).ackless := by
  rcases beforeMessage_cases s a with e | e <;> rw [e]
  · exact h
  · exact ackless_placeLine h

theorem ackless_leaveMessage {f : Framing} (h : f.ackDue = false) : (s.leaveMessage f).ackless := by
  unfold State.ackless
  rw [leaveMessage_bus]
  exact h

theorem ackless_enterBusFault : s.enterBusFault.ackless := by
  unfold State.ackless
  rw [State.enterBusFault, (works_abandonWaits _).bus]

theorem leaveMessage_station (f : Framing) : (s.leaveMessage f).members.station = s.members.station := by
  unfold State.leaveMessage State.writePendingVote
  split
  · exact (works_evaluateCommit _).station
  · rfl

theorem beforeMessage_station (a : BitVec 3) : (s.beforeMessage a).members.station = s.members.station := by
  rcases beforeMessage_cases s a with e | e <;> rw [e]
  rcases placeLine_cases s with e | e <;> rw [e]
  exact leaveMessage_station _

/-- A reception at a station that is not MEMBER decides no ack, when the blocks of such a station leave the line as it is. -/
theorem ackless_handOn {cls : MsgClass} {m : Received} {blocks : State → State} (hs : s.isMember = false) (h : s.ackless)
    (hb : ∀ u : State, u.isMember = false → (blocks u).bus = u.bus) : (s.handOn cls m blocks).ackless := by
  rcases handOn_cases s cls m blocks _ rfl with e | e | e | e | ⟨_, _, e⟩ <;> rw [e]
  · exact h
  · exact ackless_leaveMessage rfl
  · rfl
  · exact ackless_enterBusFault
  · refine ackless_congr (hb _ ?_) rfl
    rw [← hs]
    exact congrArg (fun x => decide (x = StationState.member)) (beforeMessage_station m.attempt)

theorem ackless_completeCrc (x : Txn) (h : s.ackless) : (s.completeCrc x).ackless := by
  by_cases hc : x.owner = .canvas ∧ x.crcDone = false
  · rw [completeCrc_delivers s hc.1 hc.2]
    exact ackless_congr (works_settle _).bus h
  · rw [completeCrc_again s hc]
    exact h

theorem ackless_endAckField (slots : List Station) (h : s.ackless) : (s.endAckField slots).ackless := by
  unfold State.endAckField
  split
  · split
    · exact h
    all_goals exact h
  · exact h

theorem ackless_contendWith (rivals : List (BitVec 6)) (h : s.ackless) : (s.contendWith rivals).ackless := by
  unfold State.contendWith
  dsimp only
  split
  · split
    · exact ackless_congr (works_recheckOutbox s).bus h
    · split
      · exact arbitrated_ackDue _
      · exact arbitrated_ackDue _
  · exact h

theorem ackless_mismatchNow (h : s.ackless) : s.mismatchNow.ackless := by
  unfold State.mismatchNow
  split
  · split
    · dsimp only
      split
      · exact h
      · exact follow_ackDue h _
    · exact follow_ackDue h _
    · exact h
    · exact h
  · exact h

theorem ackless_endTransaction (x : Txn) (o : Outcome) : (s.endTransaction x o).ackless := by
  unfold State.endTransaction
  dsimp only
  split
  · exact ackless_enterBusFault
  · split
    · rfl
    · refine ackless_congr (ownerEnds_bus _ _ _ _) ?_
      rfl

theorem ackless_discardMessage (bits : List Bool) (h : s.ackless) : (s.discardMessage bits).ackless := by
  unfold State.discardMessage
  split
  · exact h
  · split
    · exact ackless_leaveMessage rfl
    · rfl

/-- The rows of the bus and the timers decide no ack outside MEMBER. -/
theorem exec_ackless {c : Instr} {t : State} (hc : isInner c = true) (hs : s.isMember = false) (k : s.ackless)
    (h : exec c s = .next t) : t.ackless := by
  have run {f : State → State} (hf : (f s).ackless)
      (h : Host.Outcome.next (whenRunning s f) = (.next t : Host.Outcome State Fault Refusal)) : t.ackless :=
    of_whenRunning (R := fun _ t => t.ackless) s k hf h
  cases c
  case contend rivals => exact run (ackless_contendWith rivals k) h
  case selfDelivery =>
    rcases exec_selfDelivery_cases s h with rfl | ⟨x, p, _, _, _, _, rfl⟩
    · exact k
    · exact ackless_completeCrc x k
  case ackFieldEnd slots =>
    rcases exec_ackFieldEnd_cases s h with rfl | rfl | ⟨x, p, _, _, rfl⟩
    · exact k
    · exact ackless_endAckField slots k
    · exact ackless_endAckField slots (ackless_completeCrc x k)
  case mismatch => exact run (ackless_mismatchNow k) h
  case transactionEnd =>
    refine run ?_ h
    split
    · split
      · exact ackless_endTransaction _ _
      · rfl
      · exact k
    · exact k
  case canvasReceived m =>
    exact run (ackless_handOn hs k fun u hu => unlessForeign_bus u m _ (judgeCanvas_bus hu m)) h
  case voteReceived m => exact run (ackless_handOn hs k fun u hu => unlessForeign_bus u m _ (judgeVote_bus hu m)) h
  case edgeReceived m => exact run (ackless_handOn hs k fun u hu => unlessForeign_bus u m _ (judgeEdge_bus hu m)) h
  case beaconReceived m =>
    refine run (ackless_handOn hs k fun u hu => ?_) h
    split
    · exact checkGeometry_bus u _ _ _ (judgeBeacon_bus hu m _ _ _ _ _)
    · exact malformedHello_bus m
  case joinReceived m =>
    refine run (ackless_handOn hs k fun u hu => ?_) h
    split
    · exact checkGeometry_bus u _ _ _ (judgeJoin_bus hu m _)
    · exact malformedHello_bus m
  case leaveReceived m =>
    refine run (ackless_handOn hs k fun u hu => ?_) h
    split
    · exact checkGeometry_bus u _ _ _ (judgeLeave_bus hu m)
    · exact malformedHello_bus m
  case badCrc bits => exact run (ackless_discardMessage bits (ackless_beforeMessage 1 k)) h
  case breakSeen => refine run ?_ h; unfold State.breakOnLine; split; exacts [k, rfl]
  case lineEnd => refine run ?_ h; unfold State.endLine; split; all_goals first | exact ackless_placeLine k | exact k
  case listenTimerExpiry => refine run ?_ h; split; exacts [ackless_congr (works_recheckOutbox _).bus k, k]
  case beaconTimerExpiry => refine run ?_ h; split; exacts [k, k]
  case silenceTimeout n => refine run ?_ h; split; exacts [ackless_congr (removePeer_bus s n _) k, k]
  case barrierTimeout => refine run ?_ h; split; exacts [ackless_congr (works_commitNow _).bus k, k]
  case edgeTimeout => refine run ?_ h; split; exacts [ackless_congr (works_endEdgeWait _).bus k, k]
  case rowEnd => refine run ?_ h; unfold State.endRow; dsimp only; split; exacts [k, k]
  case linePlaced => refine run ?_ h; unfold State.enterIdle; split; all_goals first | exact ackless_placeLine k | exact k
  case endFieldUnsynced =>
    refine run ?_ h
    unfold State.upsetEndField
    split
    · exact k
    · split
      all_goals first | exact ackless_leaveMessage rfl | exact k
  all_goals cases hc

theorem portEffect_ackless (c : Instr) {u : State} (h : u.ackless) : (portEffect c u).ackless := by
  cases c
  case softReset => rfl
  case readPeer => dsimp only [portEffect]; split <;> exact h
  case readWatch => dsimp only [portEffect]; split <;> exact h
  case post => dsimp only [portEffect]; split <;> exact h
  case clearEvents => dsimp only [portEffect, State.clearFlags]; split <;> exact h
  case setWatch => dsimp only [portEffect, State.takeWatch]; split <;> exact h
  case setCursor => dsimp only [portEffect]; split <;> exact h
  case writeOverlay => dsimp only [portEffect]; rw [overlayWrites_frame]; exact h
  case editEnd => dsimp only [portEffect]; split <;> exact h
  case setDisplay => dsimp only [portEffect]; split <;> exact h
  all_goals exact h

/-- Settles O16: outside MEMBER no row of any kind decides an ack. -/
theorem acksAreDecidedInMember : Obligations.AcksAreDecidedInMember := by
  intro c s t h hn ht
  by_contra hs
  have hm : s.isMember = false := by simpa [State.isMember] using hs
  refine absurd ht (Bool.not_eq_true _ ▸ ?_)
  change t.ackless
  rcases instr_cases c with hc | hc | hc | hc | rfl
  · exact exec_ackless hc hm hn h
  · exact (exec_portRow s hc h).of (P := State.ackless) (fun _ _ _ k => k) (fun _ => portEffect_ackless c) hn
  · obtain ⟨u, hd, hw⟩ := exec_draws hc h
    exact ackless_congr (hw.bus.trans hd.bus) hn
  · obtain ⟨p, rfl⟩ := coldReset_of hc h
    rfl
  · rw [assertReset_of h]
    rfl

end Sys2Proof.Machine
end

section
/-! PROOFS. The local port: the resets as it meets them, the edges of **CS#**, what its commands load and take, and the watch and mask of
the Event Unit (chapters 8, 9 and 10). -/

namespace Sys2Proof.Machine

variable {s : State}

/-! ### RST# held low, and the soft reset -/

theorem peer_afterReset (s : State) (n m : Station) (h : s.peers = peersAfterReset m) : s.peer n = Peer.reset (n = m) := by
  simp [State.peer, h, peersAfterReset]

theorem drivesTbd_released {s : State} (h : s.ownBit = .released) : s.drivesTbd = false := by
  unfold State.drivesTbd
  rw [h]
  split <;> rfl

theorem ownBit_held (h : s.held = true) : s.ownBit = .released := by simp [State.ownBit, h]

theorem step_held (h : s.held = true) (hp : s.pending = []) : step s = .next s := by
  simp [step, hp, State.tick, whenRunning, h]

theorem inStream_held (h : s.held = true) (p : PortPhase) : s.inStream p = false := by simp [State.inStream, h]

/-- A port that takes no transaction leaves the part as it is, but that a rise of **CS#** is seen. -/
theorem portCommand_deaf (h : s.portDeaf = true) (rises : Bool) (f : State → State) : s.portCommand rises f = s.ignoreBits rises := by
  simp [State.portCommand, h]

theorem atRise_deaf (h : s.portDeaf = true) (f : State → State) : s.atRise f = s.portClosed := portCommand_deaf h true _

theorem portDeaf_of_held (h : s.held = true) : s.portDeaf = true := by simp [State.portDeaf, h]

/-- What a held part can make of its port's transaction. -/
def HeldRow (s t : State) : Prop := ∃ phase : PortPhase, t = { s with port := { s.port with phase := phase } } ∧
  (phase = s.port.phase ∨ phase = .idle ∨ phase = .waitRise)

theorem heldRow_refl (s : State) : HeldRow s s := ⟨s.port.phase, rfl, .inl rfl⟩

theorem heldRow_ignoreBits (s : State) (rises : Bool) : HeldRow s (s.ignoreBits rises) := by
  cases rises
  · exact ⟨.waitRise, rfl, .inr (.inr rfl)⟩
  · exact ⟨.idle, rfl, .inr (.inl rfl)⟩

/-- A port row at a held part. -/
theorem exec_port_held {c : Instr} (hc : isPort c = true) (h : s.held = true) : ∃ t, exec c s = .next t ∧ HeldRow s t := by
  have deaf (rises : Bool) (f : State → State) : HeldRow s (s.portCommand rises f) := by
    rw [portCommand_deaf (portDeaf_of_held h)]
    exact heldRow_ignoreBits s rises
  cases c
  case csFall edges =>
    refine ⟨_, rfl, ?_⟩
    cases edges
    case rise => exact heldRow_ignoreBits s true
    all_goals
      dsimp only
      rw [if_pos h]
      exact heldRow_ignoreBits s _
  case unknownOpcode opcode rises =>
    refine ⟨_, rfl, ?_⟩
    split
    · exact heldRow_refl s
    · exact deaf _ _
  case writeOverlay =>
    refine ⟨_, rfl, ?_⟩
    rw [if_neg (by simp [inStream_held h])]
    exact deaf _ _
  case writeOverlayPartialByte =>
    refine ⟨_, rfl, ?_⟩
    rw [if_neg (by simp [inStream_held h])]
    exact deaf _ _
  case readOverlay =>
    refine ⟨_, rfl, ?_⟩
    rw [if_neg (by simp [inStream_held h])]
    exact deaf _ _
  all_goals first | exact ⟨_, rfl, deaf _ _⟩ | cases hc

/-- The other rows at a held part: nothing happens. -/
theorem exec_running_held {c : Instr} (hc : isInner c = true ∨ c = .drawPlaneWrite ∨ c = .copyComplete) (h : s.held = true) :
    exec c s = .next s := by
  have still (f : State → State) : Host.Outcome.next (whenRunning s f) = (.next s : Host.Outcome State Fault Refusal) := by
    simp [whenRunning, h]
  rcases hc with hc | rfl | rfl
  · cases c
    all_goals first | exact still _ | cases hc
  · exact still _
  · exact still _

/-- Settles O20: the asserted state written out, and every row but the resets by its kind. -/
theorem assertedResetHoldsThePart : Obligations.AssertedResetHoldsThePart := by
  refine ⟨fun s => ⟨s.assertReset, rfl, rfl, rfl, rfl, rfl, rfl, rfl, rfl, ?_⟩, fun c s h h1 h2 h3 => ?_⟩
  · have hpeer (n : Station) := peer_afterReset s.assertReset n s.straps.n rfl
    have hroster (n : Station) : s.assertReset.inRoster n = false := by
      unfold State.inRoster
      rw [hpeer, Peer.reset_state]
      split <;> rfl
    refine ⟨by cases hs : s.barrier.shown <;> simp [State.shownPlane, State.plane, State.assertReset, hs], rfl, rfl, rfl, rfl,
      drivesTbd_released (ownBit_held rfl), rfl, rfl, rfl, rfl, rfl, rfl, rfl, rfl, rfl, rfl,
      fun n => ⟨by rw [hpeer]; rfl, by rw [hpeer]; rfl, hroster n⟩, rfl, rfl, rfl, rfl, rfl, fun i => rfl, rfl, rfl,
      step_held rfl rfl⟩
  · rcases instr_cases c with hc | hc | hc | hc | rfl
    · exact ⟨_, exec_running_held (.inl hc) h, .inl rfl⟩
    · obtain ⟨t, ht, phase, rfl, hphase⟩ := exec_port_held hc h
      exact ⟨phase, ht, hphase⟩
    · exact ⟨_, exec_running_held (.inr hc) h, .inl rfl⟩
    · rcases hc with ⟨p, rfl⟩ | ⟨p, rfl⟩
      · exact absurd rfl (h1 p)
      · exact absurd rfl (h2 p)
    · exact absurd rfl h3

/-- Settles O21: the soft-reset state read block by block. -/
theorem softResetClearsEveryBlock : Obligations.SoftResetClearsEveryBlock := by
  intro s h
  refine ⟨s.softResetAll.setPort .idle s.port.out, congrArg Host.Outcome.next (atRise_open h _), rfl, h.1, rfl, rfl, rfl,
    fun hx => ?_, fun x hx => ?_, rfl, rfl, fun n => ?_, rfl, rfl, rfl, rfl, rfl, rfl, rfl⟩
  · exact congrArg (Option.map _) hx
  · refine (congrArg (Option.map _) hx).trans ?_
    obtain ⟨owner, seq, payload, attempts, crcDone, acked, phase⟩ := x
    cases phase <;> rfl
  · rw [peer_afterReset _ n s.straps.n rfl]
    simp [Peer.reset]

/-! ### The edges of CS# -/

theorem Event.exists_number {i : Nat} (h : i < 16) : ∃ e : Event, e.number = i := by
  have all : ∀ i : Fin 16, ∃ e ∈ [Event.frame, .commit, .barrierLate, .watch, .peerJoined, .peerLeft, .canvasLost, .diverged,
      .edgeTimeout, .edgeLost, .outboundSpace, .format, .geometry, .busFault, .portError, .joined], e.number = i.val := by decide
  obtain ⟨e, _, he⟩ := all ⟨i, h⟩
  exact ⟨e, he⟩

theorem irqPending_iff (s : State) :
    s.irqPending = true ↔ ∃ e : Event, s.flagSet e = true ∧ s.events.mask.getLsbD e.number = true := by
  unfold State.irqPending State.flagSet
  rw [decide_eq_true_eq]
  constructor
  · intro h
    by_contra hn
    refine h (BitVec.eq_of_getLsbD_eq fun i hi => ?_)
    obtain ⟨e, rfl⟩ := Event.exists_number hi
    refine (BitVec.getLsbD_and ..).trans (Eq.trans ?_ BitVec.getLsbD_zero.symm)
    rw [Bool.and_eq_false_iff]
    by_contra hb
    rw [not_or, Bool.not_eq_false, Bool.not_eq_false] at hb
    exact hn ⟨e, hb⟩
  · rintro ⟨e, h1, h2⟩ h0
    have hb := congrArg (BitVec.getLsbD · e.number) h0
    simp [h1, h2] at hb

/-- The status byte by its parts: a code of three bits, and four flags below it. -/
theorem statusByte_parts (st : StationState) (a b c d : Bool) (v : Byte)
    (hv : v = (st.code <<< 5) ||| flagBit a 4 ||| flagBit b 3 ||| flagBit c 2 ||| flagBit d 1) :
    (v.extractLsb' 5 3).toNat = st.code.toNat ∧
    v.getLsbD 4 = a ∧ v.getLsbD 3 = b ∧ v.getLsbD 2 = c ∧ v.getLsbD 1 = d ∧ v.getLsbD 0 = false := by
  subst hv
  revert a b c d
  cases st <;> decide

/-- Settles O22: the edges of **CS#**, the parts of the status byte, and the bytes and bits on **SDO**. -/
theorem statusByteAtCsFall : Obligations.StatusByteAtCsFall := by
  refine ⟨fun s h => ?_, fun s => rfl, fun s i => ⟨?_, fun j hj => ?_⟩⟩
  · obtain ⟨h1, h2, h3, h4, h5, h6⟩ := statusByte_parts s.members.station s.irqPending _ _ _ s.statusByte rfl
    refine ⟨?_, ?_, by rw [h1]; cases s.members.station <;> rfl, by rw [h2]; exact irqPending_iff s, h3, h4, h5, h6⟩
    · simp [exec, execCsFall, h, State.beginTransaction, State.setPort]
    · simp [exec, execCsFall, h, State.beginTransaction, State.setPort]
  · simp [State.sdoByte, State.sdoDriven, filler]
  · have hdiv : (8 * i + j) / 8 = i := by omega
    have hmod : (8 * i + j) % 8 = j := by omega
    simp [State.sdoBit, hdiv, hmod, BitVec.getMsbD, hj]

/-! ### Faulty transactions -/

theorem unlessRisen_eq (p : PortPhase) (rises : Bool) : p.unlessRisen rises = if rises = true then .idle else p := rfl

theorem ignoreBits_waitRise (h : s.port.phase = .waitRise) (rises : Bool) :
    s.ignoreBits rises = if rises = true then s.portClosed else s := by
  cases rises
  · unfold State.ignoreBits State.setPort PortPhase.unlessRisen
    rw [if_neg (by simp), if_neg (by simp), ← h]
  · rfl

theorem sdoByte_out (s : State) (i : Nat) : s.sdoByte i =
    if s.held = false ∧ s.port.phase ≠ .idle ∧ s.port.phase ≠ .waitRise then some ((s.port.out[i]?).getD 0) else none :=
  (statusByteAtCsFall.2.2 s i).1

theorem exec_unknownOpcode_open (h : s.portOpen) {opcode : Byte} (ho : opcode ∉ knownOpcodes) (rises : Bool) :
    exec (.unknownOpcode opcode rises) s = .next { s.raise .portError with
      port := { s.port with phase := if rises = true then .idle else .finished } } := by
  have hk : ¬ knownOpcodes.contains opcode = true := by simpa using ho
  simp only [exec, execUnknownOpcode, if_neg hk, portCommand_open h, State.respond, List.append_nil]
  rfl

/-- Settles O23: at an open transaction PORT_ERROR, and at a port that waits for the rise of **CS#** nothing. -/
theorem faultyTransactionsRaisePortError : Obligations.FaultyTransactionsRaisePortError := by
  refine ⟨fun s h => ⟨fun opcode rises ho => ⟨_, exec_unknownOpcode_open h ho rises, rfl, fun i hi => ?_⟩, ?_⟩,
    fun s hh hw => ⟨fun i => ?_, fun c rises hc => ?_, fun c hc => ?_, ?_⟩⟩
  · rw [sdoByte_out]
    cases rises
    · simp [h.1, List.getElem?_eq_none hi]
    · simp
  · exact congrArg Host.Outcome.next (atRise_open h _)
  · simp [sdoByte_out, hw]
  · have hdeaf : s.portDeaf = true := by simp [State.portDeaf, hw]
    have deaf (f : State → State) : s.portCommand rises f = if rises = true then s.portClosed else s := by
      rw [portCommand_deaf hdeaf, ignoreBits_waitRise hw]
    have stream : s.inStream .writing = false ∧ s.inStream .reading = false := by simp [State.inStream, hw]
    rcases hc with rfl | rfl | rfl | ⟨n, rfl⟩ | ⟨e, rfl⟩ | ⟨d, rfl⟩ | ⟨n, rfl⟩ | ⟨o, ho, rfl⟩
    case inr.inr.inr.inr.inr.inl => simp only [exec, execWriteOverlay, stream.1, Bool.false_eq_true, ite_false, deaf]
    case inr.inr.inr.inr.inr.inr.inl => simp only [exec, execReadOverlay, stream.2, Bool.false_eq_true, ite_false, deaf]
    case inr.inr.inr.inr.inr.inr.inr =>
      have hk : ¬ knownOpcodes.contains o = true := by simpa using ho
      simp only [exec, execUnknownOpcode, if_neg hk, deaf]
    all_goals exact congrArg Host.Outcome.next (deaf _)
  · have hdeaf : s.portDeaf = true := by simp [State.portDeaf, hw]
    have stream : s.inStream .writing = false := by simp [State.inStream, hw]
    rcases hc with rfl | ⟨r, rfl⟩ | ⟨m, rfl⟩ | ⟨m, rfl⟩ | ⟨e, n, a, y, b, z, rfl⟩ | ⟨l, rfl⟩ | ⟨b, k, rfl⟩ | rfl | rfl | rfl |
      ⟨m, k, q, rfl⟩ | rfl | rfl
    case inr.inr.inr.inr.inr.inr.inr.inl =>
      simp only [exec, execWriteOverlayPartialByte, stream, Bool.false_eq_true, ite_false, atRise_deaf hdeaf]
    case inr.inr.inr.inr.inr.inr.inr.inr.inr.inr.inr.inr => rfl
    all_goals exact congrArg Host.Outcome.next (atRise_deaf hdeaf _)
  · simp [exec, execCsFall, hh, State.beginTransaction, State.setPort]

end Sys2Proof.Machine
end

section
/-! PROOFS. What the local port's commands load and take: the responses, one POST's result, the settings and the overlay (chapters 8, 9,
10 and 11). -/

namespace Sys2Proof.Machine

variable {s : State}

/-! ### The responses -/

theorem stationMap_foldl (l : List Station) (acc : Half) (n : Station) :
    (l.foldl (fun acc n => acc ||| BitVec.twoPow 16 n.val) acc).getLsbD n.val = (acc.getLsbD n.val || decide (n ∈ l)) := by
  induction l generalizing acc with
  | nil => simp
  | cons m l ih =>
    have hbit : (BitVec.twoPow 16 m.val).getLsbD n.val = decide (n = m) := by
      have hm := m.isLt
      by_cases h : n = m
      · subst h; simp
      · have hv : ¬ n.val = m.val := fun e => h (Fin.ext e)
        simp [h, hv]
    rw [List.foldl_cons, ih, BitVec.getLsbD_or, hbit, Bool.or_assoc]
    by_cases h : n = m <;> simp [h]

theorem stationMap_bit (l : List Station) (n : Station) : (stationMap l).getLsbD n.val = decide (n ∈ l) := by
  rw [stationMap, stationMap_foldl]
  simp

/-- Settles O24: the responses read byte by byte. -/
theorem readCommandsLoadTheirResponse : Obligations.ReadCommandsLoadTheirResponse := by
  intro s rises h phase hp
  subst hp
  refine ⟨congrArg Host.Outcome.next (portCommand_open h rises _), rfl, ?_, rfl, ?_, ?_,
    congrArg Host.Outcome.next (portCommand_open h rises _), ?_⟩
  · refine congrArg₂ List.cons ?_ rfl
    cases s.members.station <;> rfl
  · refine congrArg₂ List.cons ?_ (congrArg₂ List.cons ?_ ?_)
    · cases s.raster.engine <;> rfl
    · cases s.barrier.shown <;> rfl
    · refine congrArg (fun b : Byte => [countByte s.stream.outbound.length, countByte s.stream.inbound.length,
        countByte s.edge.outbox.length, countByte s.edge.inbox.length, s.stream.counter, b]) ?_
      cases s.stream.lastPost <;> rfl
  · refine ⟨stationMap s.roster, stationMap s.barrier.late, rfl, fun n => ?_, fun n => stationMap_bit _ n⟩
    rw [stationMap_bit, Bool.eq_iff_iff, decide_eq_true_eq]
    exact mem_roster s n
  · refine (congrArg Host.Outcome.next (portCommand_open h rises _)).trans ?_
    refine congrArg (fun l => Host.Outcome.next (s.setPort _ (s.port.out ++ l))) ?_
    unfold State.divergenceBytes
    cases s.members.divergence with
    | none => rfl
    | some r =>
      obtain ⟨peer, cause, epoch, own, theirs⟩ := r
      cases cause <;> rfl

theorem flagBit_eq (b : Bool) (i : Nat) : flagBit b i = if b = true then BitVec.twoPow 8 i else 0 := rfl

theorem toNat_station (n : Station) : (BitVec.ofNat 8 n.val).toNat = n.val := by
  have := n.isLt
  simp only [BitVec.toNat_ofNat]
  omega

theorem peerBytes_eq (s : State) (n : Station) (p : Peer) (v : Option Epoch) (hp : p = s.peer n)
    (hv : v = if n = s.straps.n then some s.barrier.voted else p.voted) : s.peerBytes n =
      [p.state.code,
        (if p.silence.isSome = true then 1 else 0) ||| (if p.diverged = true then 2 else 0)
          ||| (if p.expected.isSome = true then 4 else 0) ||| (if p.applied.isSome = true then 8 else 0)
          ||| (if v.isSome = true then 16 else 0),
        p.expected.getD 0, p.applied.getD 0, hi8 (v.getD 0), lo8 (v.getD 0)] := by
  subst hp hv
  rfl

theorem watchBytes_eq (w : WatchEntry) : w.bytes =
    [(if w.enabled = true then 1 else 0) ||| (if w.firstHit.isSome = true then 6 else 0),
      hi8 (BitVec.ofNat 16 w.x0), lo8 (BitVec.ofNat 16 w.x0), BitVec.ofNat 8 w.y0,
      hi8 (BitVec.ofNat 16 w.x1), lo8 (BitVec.ofNat 16 w.x1), BitVec.ofNat 8 w.y1,
      (match w.firstHit with | some (o, _) => BitVec.ofNat 8 o.val | none => 0),
      (match w.firstHit with | some (_, q) => q | none => 0)] := by
  have hflags : ∀ a b : Bool, flagBit a 0 ||| flagBit b 1 ||| flagBit b 2 =
      (if a = true then 1 else 0) ||| (if b = true then 6 else 0) := by decide
  unfold WatchEntry.bytes
  rw [hflags]
  cases w.firstHit <;> rfl

/-- Settles O25: the entry's bytes where the byte names one, PORT_ERROR elsewhere. -/
theorem readEntryLoadsOneEntry : Obligations.ReadEntryLoadsOneEntry := by
  intro s rises h phase hp
  subst hp
  refine ⟨fun n p v hp hv => ?_, fun i hi => ?_, fun e w hw => ?_, fun e he => ?_⟩
  · have hn := n.isLt
    have hfin : Fin.ofNat 16 n.val = n := Fin.ext (Nat.mod_eq_of_lt hn)
    simp only [exec, execReadPeer, portCommand_open h, toNat_station, if_pos (Nat.le_of_lt_succ hn), hfin,
      peerBytes_eq s n p v hp hv]
    refine congrArg (fun b => Host.Outcome.next (s.respond rises (0 :: b :: _))) ?_
    cases p.state <;> rfl
  · simp only [exec, execReadPeer, portCommand_open h, if_neg (Nat.not_le.mpr hi), State.respond, List.append_nil]
    rfl
  · simp only [exec, execReadWatch, portCommand_open h, hw, watchBytes_eq]
    rcases w.firstHit with _ | ⟨o, q⟩ <;> rfl
  · simp only [exec, execReadWatch, portCommand_open h, List.getElem?_eq_none he, State.respond, List.append_nil]
    rfl

/-! ### Events, the mask and the settings -/

theorem flagSet_cleared (s : State) (m : Half) (e : Event) :
    State.flagSet { s with events := { s.events with flags := s.events.flags &&& ~~~m } } e =
      (s.flagSet e && !m.getLsbD e.number) := by
  have hlt : e.number < 16 := by cases e <;> decide
  simp [State.flagSet, hlt]

theorem clearFlags_eq (s : State) (m : Half) : s.clearFlags m = { s with
    events := { flags := s.events.flags &&& ~~~m, mask := s.events.mask }
    members := if m.getLsbD 7 then { s.members with divergence := none } else s.members
    peers := if m.getLsbD 7 then s.peers.map (fun p => { p with diverged := false }) else s.peers } := by
  unfold State.clearFlags
  dsimp only
  by_cases h : m.getLsbD 7 = true
  · simp only [if_pos h]
    rfl
  · simp only [if_neg h]

/-- Settles O27. -/
theorem flagsMaskAndIrq : Obligations.FlagsMaskAndIrq := by
  intro m s h
  refine ⟨⟨_, congrArg Host.Outcome.next (atRise_open h _), fun e => ?_, ?_⟩, congrArg Host.Outcome.next (atRise_open h _), ?_⟩
  · rw [← flagSet_cleared, clearFlags_eq]
    rfl
  · rw [clearFlags_eq]
    rfl
  · rw [State.irqLow, h.1]
    exact irqPending_iff s

/-- The part after reset, a port transaction begun. -/
def openedReset : State := { State.reset with port := { State.reset.port with phase := .opened } }

/-- Refutes O28: the model takes a SET DISPLAY whose combine byte 3 is no code (11.2) with the combine NONE, where the statement has it
refused with PORT_ERROR. `Combine.ofCode`, in whose scope the name `none` is the combine setting, gives every byte a setting. -/
theorem not_settingsAreTakenOrRefused : ¬ Obligations.SettingsAreTakenOrRefused := by
  intro h
  have hopen : openedReset.portOpen := ⟨rfl, rfl⟩
  obtain ⟨_, _, _, _, _, _, hdisplay⟩ := h openedReset hopen
  have hrefused : openedReset.atRise (fun s => match parseDisplay 1 3 0 with
      | some d => { s with port := { s.port with display := d } }
      | none => s.raise .portError) = (openedReset.raise .portError).portClosed := Host.Outcome.next.inj (hdisplay 1 3 0)
  have hmode := congrArg (fun s : State => s.port.display.mode) hrefused
  exact absurd hmode (by decide)

end Sys2Proof.Machine
end

section
/-! PROOFS. The overlay's bytes written and read from the cursor on, and the tables of a posted record (chapters 2, 8 and 10). -/

namespace Sys2Proof.Machine

variable {s : State}

/-! ### WRITE OVERLAY -/

theorem overlayWrites_cursor (data : List Byte) (s : State) (h : s.port.cursor.inRange) :
    (s.overlayWrites data).port.cursor =
      { band := s.port.cursor.band, column := min 143 (s.port.cursor.column + data.length) } := by
  induction data generalizing s with
  | nil =>
    obtain ⟨_, hcol⟩ := h
    have e : min 143 (s.port.cursor.column + 0) = s.port.cursor.column := by omega
    rw [List.length_nil, e]
    rfl
  | cons v data ih =>
    refine (ih (s.overlayWrite v) (Cursor.advance_inRange h)).trans (congrArg (Cursor.mk _) ?_)
    simp only [State.overlayWrite, Cursor.advance, List.length_cons]
    omega

theorem overlayWrites_setPort (data : List Byte) (s : State) (p : PortPhase) (o : List Byte) :
    (s.setPort p o).overlayWrites data = (s.overlayWrites data).setPort p o := by
  induction data generalizing s with
  | nil => rfl
  | cons v data ih => exact ih (s.overlayWrite v)

theorem overlayWrites_append (a b : List Byte) (s : State) : s.overlayWrites (a ++ b) = (s.overlayWrites a).overlayWrites b :=
  List.foldl_append

theorem overlayWrites_out (data : List Byte) (s : State) : (s.overlayWrites data).port.out = s.port.out := by
  rw [overlayWrites_frame]

theorem overlayWrites_held (data : List Byte) (s : State) : (s.overlayWrites data).held = s.held := by
  rw [overlayWrites_frame]

/-- A run of bytes stored from column c of a band on: a byte at each column up to 142, and the last at 143 when the run passes it. -/
theorem overlayWrites_read (data : List Byte) (s : State) (hw : s.port.overlay.wf = true) (base c : Nat)
    (hb : base = byteAddress s.port.cursor.band 0) (hband : s.port.cursor.band ≤ 5) (hc : c = s.port.cursor.column) (hcol : c ≤ 143)
    (a : Nat) : (s.overlayWrites data).port.overlay.read a =
      if base + c ≤ a ∧ a < base + 143 ∧ a < base + c + data.length then (data[a - (base + c)]?).getD 0
      else if a = base + 143 ∧ 143 < c + data.length then (data.getLast?).getD 0
      else s.port.overlay.read a := by
  induction data generalizing s c with
  | nil =>
    rw [if_neg (by simp only [List.length_nil]; omega), if_neg (by simp only [List.length_nil]; omega)]
    rfl
  | cons v data ih =>
    have haddr : s.port.cursor.address = base + c := by
      rw [hb, hc]
      simp [Cursor.address, byteAddress]
    have hplane : base + c < Config.planeBytes := by
      rw [hb]
      simp only [byteAddress, Config.tileColumns, Config.planeBytes]
      omega
    have hread : (s.overlayWrite v).port.overlay.read a = if base + c = a then v else s.port.overlay.read a := by
      rw [← haddr]
      exact Memory.read_write _ _ _ _ hw (haddr ▸ hplane)
    have hnext : min 143 (c + 1) = (s.overlayWrite v).port.cursor.column := by rw [hc]; rfl
    have hrest := ih (s.overlayWrite v) (overlayWrite_wf s v hw) (min 143 (c + 1)) hb hband hnext (by omega)
    rw [hread] at hrest
    refine hrest.trans ?_
    rw [List.length_cons, List.getLast?_cons]
    by_cases hlast : c = 143
    · subst hlast
      cases data with
      | nil =>
        simp only [List.length_nil]
        split_ifs
        all_goals first | omega | rfl
      | cons w data =>
        simp only [List.length_cons, List.getLast?_cons]
        split_ifs
        all_goals first | omega | rfl
    · have hmin : min 143 (c + 1) = c + 1 := by omega
      rw [hmin]
      by_cases ha : a = base + c
      · subst ha
        rw [if_neg (by omega), if_neg (by omega), if_pos rfl, if_pos (by omega), Nat.sub_self]
        rfl
      · have hone : (base + (c + 1) ≤ a ∧ a < base + 143 ∧ a < base + (c + 1) + data.length) ↔
            (base + c ≤ a ∧ a < base + 143 ∧ a < base + c + (data.length + 1)) := by omega
        by_cases h1 : base + c ≤ a ∧ a < base + 143 ∧ a < base + c + (data.length + 1)
        · rw [if_pos (hone.mpr h1), if_pos h1]
          have hi : a - (base + c) = (a - (base + (c + 1))) + 1 := by omega
          rw [hi]
          rfl
        · rw [if_neg (fun h => h1 (hone.mp h)), if_neg h1]
          by_cases h2 : a = base + 143 ∧ 143 < c + (data.length + 1)
          · rw [if_pos h2, if_pos (by omega)]
            cases data with
            | nil => simp only [List.length_nil] at h2; omega
            | cons w data => rw [List.getLast?_cons]; rfl
          · rw [if_neg h2, if_neg (by omega), if_neg (by omega)]

/-- A WRITE OVERLAY's bytes in an open transaction, or further ones in a transaction in progress (R173). -/
theorem exec_writeOverlay (h : s.portOpen ∨ s.held = false ∧ s.port.phase = .writing) (data : List Byte) (rises : Bool) :
    exec (.writeOverlay data rises) s = .next (s.takeOverlayBytes data rises) := by
  rcases h with h | ⟨hh, hp⟩
  · have hs : s.inStream .writing = false := by simp [State.inStream, h.2]
    simp only [exec, execWriteOverlay, hs, Bool.false_eq_true, ite_false, portCommand_open h]
  · have hs : s.inStream .writing = true := by simp [State.inStream, hh, hp]
    simp only [exec, execWriteOverlay, hs, ite_true]

/-- Settles O29, by induction on the data. -/
theorem writeOverlayStoresAtCursor : Obligations.WriteOverlayStoresAtCursor := by
  refine ⟨fun data rises s h hw hc => ⟨_, exec_writeOverlay h data rises, ?_, overlayWrites_cursor data s hc, fun a => ?_⟩,
    fun first more rises s t h ht => ?_, fun s h => ?_⟩
  · unfold State.takeOverlayBytes
    rw [overlayWrites_frame]
    rfl
  · have hbase (c : Nat) : byteAddress s.port.cursor.band c = byteAddress s.port.cursor.band 0 + c := by simp [byteAddress]
    rw [hbase s.port.cursor.column, hbase 143]
    exact overlayWrites_read data s hw _ _ rfl hc.1 rfl hc.2 a
  · rw [exec_writeOverlay (.inl h)] at ht
    obtain rfl := (Host.Outcome.next.inj ht).symm
    rw [exec_writeOverlay (.inl h), exec_writeOverlay (s := s.takeOverlayBytes first false) (.inr ⟨(overlayWrites_held first s).trans h.1, rfl⟩)]
    unfold State.takeOverlayBytes
    rw [overlayWrites_append, overlayWrites_setPort]
    rfl
  · rcases h with h | ⟨hh, hp⟩
    · have hs : s.inStream .writing = false := by simp [State.inStream, h.2]
      simp only [exec, execWriteOverlayPartialByte, hs, Bool.false_eq_true, ite_false, atRise_open h]
      rfl
    · have hs : s.inStream .writing = true := by simp [State.inStream, hh, hp]
      simp only [exec, execWriteOverlayPartialByte, hs, ite_true]
      rfl

/-! ### READ OVERLAY -/

theorem overlayLoads_length (m : Memory) (editing : Bool) (n : Nat) (c : Cursor) : (overlayLoads m editing n c).1.length = n := by
  induction n generalizing c with
  | zero => rfl
  | succ n ih => exact congrArg (· + 1) (ih _)

theorem overlayLoads_append (m : Memory) (editing : Bool) (n k : Nat) (c : Cursor) : overlayLoads m editing (n + k) c =
    ((overlayLoads m editing n c).1 ++ (overlayLoads m editing k (overlayLoads m editing n c).2).1,
      (overlayLoads m editing k (overlayLoads m editing n c).2).2) := by
  induction n generalizing c with
  | zero => rw [Nat.zero_add]; rfl
  | succ n ih =>
    rw [Nat.succ_add]
    simp only [overlayLoads, ih, List.cons_append]

/-- Outside edit mode the loads go along the columns, stopping at 143. -/
theorem overlayLoads_columns (m : Memory) (n b c : Nat) (hc : c ≤ 143) :
    (overlayLoads m false n { band := b, column := c }).2 = { band := b, column := min 143 (c + n) } ∧
      ∀ i, i < n → (overlayLoads m false n { band := b, column := c }).1[i]? =
        some (m.read (byteAddress b (min 143 (c + (i + 1))))) := by
  induction n generalizing c with
  | zero => exact ⟨congrArg (Cursor.mk b) (by omega), fun i hi => absurd hi (by omega)⟩
  | succ n ih =>
    obtain ⟨h1, h2⟩ := ih (min 143 (c + 1)) (by omega)
    refine ⟨h1.trans (congrArg (Cursor.mk b) (by omega)), fun i hi => ?_⟩
    cases i with
    | zero => rfl
    | succ i =>
      have e : min 143 (min 143 (c + 1) + (i + 1)) = min 143 (c + (i + 1 + 1)) := by omega
      exact (h2 i (by omega)).trans (by rw [e])

/-- In edit mode every load is of the byte at the cursor, which stays. -/
theorem overlayLoads_editing (m : Memory) (n : Nat) (c : Cursor) :
    (overlayLoads m true n c).2 = c ∧ ∀ i, i < n → (overlayLoads m true n c).1[i]? = some (m.read c.address) := by
  induction n with
  | zero => exact ⟨rfl, fun i hi => absurd hi (by omega)⟩
  | succ n ih =>
    refine ⟨ih.1, fun i hi => ?_⟩
    cases i with
    | zero => rfl
    | succ i => exact ih.2 i (by omega)

theorem exec_readOverlay_open (h : s.portOpen) (n : Nat) (rises : Bool) :
    exec (.readOverlay n rises) s = .next (s.loadOverlay.shiftOverlayBytes n rises) := by
  have hs : s.inStream .reading = false := by simp [State.inStream, h.2]
  simp only [exec, execReadOverlay, hs, Bool.false_eq_true, ite_false, portCommand_open h]

theorem exec_readOverlay_more (hh : s.held = false) (hp : s.port.phase = .reading) (n : Nat) (rises : Bool) :
    exec (.readOverlay n rises) s = .next (s.shiftOverlayBytes n rises) := by
  have hs : s.inStream .reading = true := by simp [State.inStream, hh, hp]
  simp only [exec, execReadOverlay, hs, ite_true]

/-- The byte loaded at place i of a READ OVERLAY: at 0 the load of the opcode, and behind it those of the bytes shifted out. -/
theorem loaded_getElem? (out : List Byte) (v : Byte) (l : List Byte) (i : Nat) :
    (out ++ [v] ++ l)[out.length + i]? = if i = 0 then some v else l[i - 1]? := by
  rw [List.append_assoc, List.getElem?_append_right (by omega), Nat.add_sub_cancel_left]
  cases i with
  | zero => rfl
  | succ i => rfl

/-- Settles O30, by induction on the count. -/
theorem readOverlayAdvancesCursor : Obligations.ReadOverlayAdvancesCursor := by
  intro n rises s h hc
  refine ⟨⟨_, exec_readOverlay_open h n rises, rfl, ?_, ?_, fun hm => ?_, fun hm => ?_⟩, fun more t ht => ?_⟩
  · simp only [State.shiftOverlayBytes, State.loadOverlay, State.setPort, List.length_append, overlayLoads_length,
      List.length_singleton]
    omega
  · simp [State.shiftOverlayBytes, State.loadOverlay, State.setPort]
  · obtain ⟨h1, h2⟩ := overlayLoads_columns s.port.overlay n s.port.cursor.band s.port.cursor.column hc.2
    have hsome : s.port.mark.isSome = false := by simp [hm]
    refine ⟨?_, fun i hi => ?_⟩
    · simp only [State.shiftOverlayBytes, State.loadOverlay, State.setPort, State.setCursor, hsome]
      exact h1
    · simp only [State.shiftOverlayBytes, State.loadOverlay, State.setPort, State.setCursor, hsome]
      refine (loaded_getElem? s.port.out _ _ i).trans ?_
      obtain ⟨_, hcol⟩ := hc
      cases i with
      | zero =>
        rw [if_pos rfl, Nat.add_zero, Nat.min_eq_right hcol]
        rfl
      | succ i =>
        rw [if_neg (Nat.succ_ne_zero i)]
        exact h2 i (by omega)
  · obtain ⟨h1, h2⟩ := overlayLoads_editing s.port.overlay n s.port.cursor
    have hsome : s.port.mark.isSome = true := Option.isSome_iff_ne_none.mpr hm
    refine ⟨?_, fun i hi => ?_⟩
    · simp only [State.shiftOverlayBytes, State.loadOverlay, State.setPort, State.setCursor, hsome]
      exact h1
    · simp only [State.shiftOverlayBytes, State.loadOverlay, State.setPort, State.setCursor, hsome]
      refine (loaded_getElem? s.port.out _ _ i).trans ?_
      cases i with
      | zero => rfl
      | succ i =>
        rw [if_neg (Nat.succ_ne_zero i)]
        exact h2 i (by omega)
  · rw [exec_readOverlay_open h] at ht
    obtain rfl := (Host.Outcome.next.inj ht).symm
    rw [exec_readOverlay_open h, exec_readOverlay_more (s := s.loadOverlay.shiftOverlayBytes n false) h.1 rfl]
    simp only [State.shiftOverlayBytes, State.loadOverlay, State.setPort, State.setCursor, overlayLoads_append,
      List.append_assoc]

end Sys2Proof.Machine
end

section
/-! PROOFS. A posted record: the result it gets, when it has arrived whole, and what its bytes spell (chapters 2, 4 and 11). -/

namespace Sys2Proof.Machine

variable {s : State}

theorem be16_toNat (hi lo : Byte) : (be16 hi lo).toNat = 256 * hi.toNat + lo.toNat := by
  have hlt := lo.isLt
  rw [be16, BitVec.toNat_append, ← Nat.shiftLeft_add_eq_or_of_lt hlt, Nat.shiftLeft_eq]
  omega

/-! ### The result of a POST -/

theorem postResult_eq (s : State) (record : List Byte) : s.postResult record =
    if parseOp s.straps record = none then .invalid
    else if s.members.station = .outOfStep ∨ s.members.station = .busFault ∨ s.members.station = .strapFault then .notMember
    else if 8 ≤ s.stream.outbound.length then .full else .accepted := by
  unfold State.postResult
  split
  · rfl
  · cases s.members.station <;> rfl

/-- A POST is ACCEPTED exactly when its record is valid, a place is free and the station state takes records. -/
theorem postResult_accepted_iff (s : State) (record : List Byte) : s.postResult record = .accepted ↔
    parseOp s.straps record ≠ none ∧ s.stream.outbound.length < 8 ∧
      (s.members.station = .listening ∨ s.members.station = .joining ∨ s.members.station = .member) := by
  rw [postResult_eq]
  by_cases hp : parseOp s.straps record = none
  · simp [hp]
  · by_cases hl : 8 ≤ s.stream.outbound.length
    · cases s.members.station <;> simp [hp, hl]
    · cases s.members.station <;> simp [hp, hl, Nat.lt_of_not_le hl]

theorem takePost_eq (s : State) (record : List Byte) : s.takePost record = { s with stream := { s.stream with
    lastPost :=
      if parseOp s.straps record = none then .invalid
      else if s.members.station = .outOfStep ∨ s.members.station = .busFault ∨ s.members.station = .strapFault then .notMember
      else if 8 ≤ s.stream.outbound.length then .full else .accepted
    outbound :=
      if parseOp s.straps record ≠ none ∧ s.stream.outbound.length < 8 ∧
          (s.members.station = .listening ∨ s.members.station = .joining ∨ s.members.station = .member)
      then s.stream.outbound ++ [record] else s.stream.outbound } } := by
  simp only [State.takePost, postResult_accepted_iff]
  rw [postResult_eq]

/-! ### When a record has arrived whole -/

theorem fixed_eq (k have' n : Nat) : (if k ≤ have' then some k else none) = some n ↔ k ≤ have' ∧ n = k := by
  split
  · simp [*, eq_comm]
  · simp [*]

theorem byte_eq_iff (c k : Byte) : c = k ↔ c.toNat = k.toNat := BitVec.toNat_eq

/-- A STRIP has arrived whole by its count of data bytes, which is its sixth byte (R180). -/
theorem recordLength_strip (rest : List Byte) (n : Nat) : recordLength (2 :: rest) = some n ↔
    ∃ len, (2 :: rest)[5]? = some len ∧
      ((len.toNat = 0 ∨ 64 < len.toNat) ∧ n = 6 ∨
        1 ≤ len.toNat ∧ len.toNat ≤ 64 ∧ 6 + len.toNat ≤ (2 :: rest).length ∧ n = 6 + len.toNat) := by
  match rest with
  | [] | [_] | [_, _] | [_, _, _] | [_, _, _, _] => simp [recordLength]
  | x1 :: x0 :: y :: mode :: len :: data =>
    have hlen : len = 0 ↔ len.toNat = 0 := byte_eq_iff len 0
    have hwhole : recordLength (2 :: x1 :: x0 :: y :: mode :: len :: data) =
        if len = 0 ∨ 64 < len.toNat then some 6
        else if 6 + len.toNat ≤ data.length + 5 + 1 then some (6 + len.toNat) else none := rfl
    rw [hwhole]
    simp only [hlen, List.getElem?_cons_succ, List.getElem?_cons_zero, List.length_cons, Option.some.injEq, exists_eq_left']
    by_cases hb : len.toNat = 0 ∨ 64 < len.toNat
    · rw [if_pos hb, Option.some.injEq]
      omega
    · rw [if_neg hb, fixed_eq]
      omega

theorem recordLength_iff (bytes : List Byte) (n : Nat) : recordLength bytes = some n ↔ ∃ kind, bytes.head? = some kind ∧
    (kind = 1 ∧ 8 ≤ bytes.length ∧ n = 8 ∨
      (kind = 2 ∧ ∃ len, bytes[5]? = some len ∧
        ((len.toNat = 0 ∨ 64 < len.toNat) ∧ n = 6 ∨
          1 ≤ len.toNat ∧ len.toNat ≤ 64 ∧ 6 + len.toNat ≤ bytes.length ∧ n = 6 + len.toNat)) ∨
      kind = 3 ∧ 4 ≤ bytes.length ∧ n = 4 ∨ kind = 4 ∧ 2 ≤ bytes.length ∧ n = 2 ∨ 4 < kind.toNat ∧ n = 1 ∨
      kind = 0 ∧ n = 1) := by
  cases bytes with
  | nil => simp [recordLength]
  | cons kind rest =>
    simp only [List.head?_cons, Option.some.injEq, exists_eq_left']
    by_cases h2 : kind = 2
    · subst h2
      simpa using recordLength_strip rest n
    · have hother : recordLength (kind :: rest) =
          if kind = 1 then (if 8 ≤ rest.length + 1 then some 8 else none)
          else if kind = 3 then (if 4 ≤ rest.length + 1 then some 4 else none)
          else if kind = 4 then (if 2 ≤ rest.length + 1 then some 2 else none) else some 1 := by
        simp only [recordLength, if_neg h2]
      have h0 : kind = 0 ↔ kind.toNat = 0 := byte_eq_iff kind 0
      have h1 : kind = 1 ↔ kind.toNat = 1 := byte_eq_iff kind 1
      have h2' : ¬ kind.toNat = 2 := (byte_eq_iff kind 2).not.mp h2
      have h3 : kind = 3 ↔ kind.toNat = 3 := byte_eq_iff kind 3
      have h4 : kind = 4 ↔ kind.toNat = 4 := byte_eq_iff kind 4
      rw [hother]
      simp only [h0, h1, h2, h3, h4, List.length_cons, false_and, false_or]
      split
      · rw [fixed_eq]; omega
      · split
        · rw [fixed_eq]; omega
        · split
          · rw [fixed_eq]; omega
          · rw [Option.some.injEq]; omega

/-! ### What the bytes of a record spell -/

theorem ink_iff (c : Byte) (i : Ink) : Ink.ofCode c = some i ↔ c = 0 ∧ i = .set ∨ c = 1 ∧ i = .clear ∨ c = 2 ∧ i = .invert := by
  unfold Ink.ofCode
  split
  · subst c; cases i <;> simp
  · split
    · subst c; cases i <;> simp
    · split
      · subst c; cases i <;> simp
      · simp_all

theorem stripMode_iff (c : Byte) (m : StripMode) : StripMode.ofCode c = some m ↔
    c = 0 ∧ m = .replace ∨ c = 1 ∧ m = .or ∨ c = 2 ∧ m = .clearWhereSet ∨ c = 3 ∧ m = .xor := by
  unfold StripMode.ofCode
  split
  · subst c; cases m <;> simp
  · split
    · subst c; cases m <;> simp
    · split
      · subst c; cases m <;> simp
      · split
        · subst c; cases m <;> simp
        · simp_all

theorem direction_iff (c : Byte) (d : Direction) : Direction.ofCode c = some d ↔
    c = 0 ∧ d = .left ∨ c = 1 ∧ d = .right ∨ c = 2 ∧ d = .up ∨ c = 3 ∧ d = .down := by
  unfold Direction.ofCode
  split
  · subst c; cases d <;> simp
  · split
    · subst c; cases d <;> simp
    · split
      · subst c; cases d <;> simp
      · split
        · subst c; cases d <;> simp
        · simp_all

theorem flagOfCode_iff (c : Byte) (b : Bool) : flagOfCode c = some b ↔ c = 0 ∧ b = false ∨ c = 1 ∧ b = true := by
  unfold flagOfCode
  split
  · subst c; cases b <;> simp
  · split
    · subst c; cases b <;> simp
    · simp_all

theorem parseFill_iff (g : Straps) (x y w h : Nat) (ink : Byte) (op : Op) : parseFill g x y w h ink = some op ↔
    ∃ i, op = .fill x y w h i ∧ x < 144 * g.w ∧ y < 48 * g.h ∧ 1 ≤ w ∧ w ≤ 576 ∧ 1 ≤ h ∧ h ≤ 192 ∧ Ink.ofCode ink = some i := by
  unfold parseFill
  split
  · rename_i hc
    rw [Option.map_eq_some_iff]
    constructor
    · rintro ⟨i, hi, rfl⟩
      obtain ⟨h1, h2, h3, h4, h5, h6⟩ := hc
      exact ⟨i, rfl, h1, h2, h3, h4, h5, h6, hi⟩
    · rintro ⟨i, rfl, _, _, _, _, _, _, hi⟩
      exact ⟨i, hi, rfl⟩
  · rename_i hc
    constructor
    · intro h; exact absurd h (by simp)
    · rintro ⟨i, rfl, h1, h2, h3, h4, h5, h6, hi⟩
      exact absurd ⟨h1, h2, h3, h4, h5, h6⟩ hc

theorem parseStrip_iff (g : Straps) (x y : Nat) (mode : Byte) (n : Nat) (data : List Byte) (op : Op) :
    parseStrip g x y mode n data = some op ↔ ∃ m, op = .strip x y m data ∧ x < 144 * g.w ∧ y < 48 * g.h ∧ 1 ≤ n ∧ n ≤ 64 ∧
      data.length = n ∧ StripMode.ofCode mode = some m := by
  unfold parseStrip
  split
  · rename_i hc
    rw [Option.map_eq_some_iff]
    constructor
    · rintro ⟨m, hm, rfl⟩
      obtain ⟨h1, h2, h3, h4, h5⟩ := hc
      exact ⟨m, rfl, h1, h2, h3, h4, h5, hm⟩
    · rintro ⟨m, rfl, _, _, _, _, _, hm⟩
      exact ⟨m, hm, rfl⟩
  · rename_i hc
    constructor
    · intro h; exact absurd h (by simp)
    · rintro ⟨m, rfl, h1, h2, h3, h4, h5, hm⟩
      exact absurd ⟨h1, h2, h3, h4, h5⟩ hc

theorem parseShift_iff (direction : Byte) (k : Nat) (edgeMode : Byte) (op : Op) : parseShift direction k edgeMode = some op ↔
    ∃ d rotate, op = .shift d k rotate ∧ 1 ≤ k ∧ k ≤ 8 ∧ Direction.ofCode direction = some d ∧
      flagOfCode edgeMode = some rotate := by
  unfold parseShift
  split
  · rename_i hk
    split
    · rename_i d r hd hr
      constructor
      · intro h
        exact ⟨d, r, (Option.some.inj h).symm, hk.1, hk.2, hd, hr⟩
      · rintro ⟨d', r', rfl, _, _, hd', hr'⟩
        rw [Option.some.inj (hd.symm.trans hd'), Option.some.inj (hr.symm.trans hr')]
    · rename_i hn
      constructor
      · intro h; exact absurd h (by simp)
      · rintro ⟨d, r, rfl, _, _, hd, hr⟩
        exact absurd hr (hn d r hd)
  · rename_i hk
    constructor
    · intro h; exact absurd h (by simp)
    · rintro ⟨d, r, rfl, h1, h2, _, _⟩
      exact absurd ⟨h1, h2⟩ hk

theorem parseOp_iff (g : Straps) (bytes : List Byte) (op : Op) : parseOp g bytes = some op ↔
    (∃ x1 x0 y w1 w0 h ink, bytes = [1, x1, x0, y, w1, w0, h, ink] ∧
      parseFill g (be16 x1 x0).toNat y.toNat (be16 w1 w0).toNat h.toNat ink = some op) ∨
    (∃ x1 x0 y mode n data, bytes = [2, x1, x0, y, mode, n] ++ data ∧
      parseStrip g (be16 x1 x0).toNat y.toNat mode n.toNat data = some op) ∨
    (∃ direction k edgeMode, bytes = [3, direction, k, edgeMode] ∧ parseShift direction k.toNat edgeMode = some op) ∨
    ∃ mode copy, bytes = [4, mode] ∧ op = .present copy ∧ flagOfCode mode = some copy := by
  constructor
  · intro h
    unfold parseOp at h
    split at h
    · exact absurd h (by simp)
    · split at h
      · subst_vars
        split at h
        · exact .inl ⟨_, _, _, _, _, _, _, rfl, h⟩
        · exact absurd h (by simp)
      · split at h
        · subst_vars
          split at h
          · exact .inr (.inl ⟨_, _, _, _, _, _, rfl, h⟩)
          · exact absurd h (by simp)
        · split at h
          · subst_vars
            split at h
            · exact .inr (.inr (.inl ⟨_, _, _, rfl, h⟩))
            · exact absurd h (by simp)
          · split at h
            · subst_vars
              split at h
              · obtain ⟨copy, hc, rfl⟩ := Option.map_eq_some_iff.mp h
                exact .inr (.inr (.inr ⟨_, copy, rfl, rfl, hc⟩))
              · exact absurd h (by simp)
            · exact absurd h (by simp)
  · rintro (⟨_, _, _, _, _, _, _, rfl, h⟩ | ⟨_, _, _, _, _, _, rfl, h⟩ | ⟨_, _, _, rfl, h⟩ | ⟨mode, copy, rfl, rfl, h⟩)
    · exact h
    · exact h
    · exact h
    · exact congrArg (Option.map Op.present) h

/-- Settles O26: the result by the tests in their order, and both tables by the bytes' kinds. -/
theorem postGetsOneResult : Obligations.PostGetsOneResult := by
  refine ⟨fun bytes s h => ⟨fun hn => ?_, fun n hn => ?_⟩, recordLength_iff, fun g bytes op => ?_⟩
  · simp only [exec, execPost, atRise_open h, hn]
    rfl
  · simp only [exec, execPost, atRise_open h, hn, takePost_eq]
    rfl
  · rw [parseOp_iff]
    simp only [parseFill_iff, parseStrip_iff, parseShift_iff, be16_toNat, ink_iff, stripMode_iff, direction_iff, flagOfCode_iff]
    refine or_congr ?_ (or_congr ?_ (or_congr ?_ Iff.rfl))
    · simp only [← exists_and_left]
    · simp only [← exists_and_left]
    · simp only [← exists_and_left]

end Sys2Proof.Machine
end

section
/-! PROOFS. Encodings: bits and the numbers they spell, port commands, messages of the bus, their check and their arbitration (chapters 3,
7, 10 and 11). -/

namespace Sys2Proof

/-! ### Bits and bytes -/

@[simp] theorem fieldBits_length {n : Nat} (v : BitVec n) : (fieldBits v).length = n := by simp [fieldBits]

theorem fieldBits_getElem? {n : Nat} (v : BitVec n) {i : Nat} (h : i < n) : (fieldBits v)[i]? = some (v.getMsbD i) := by
  simp [fieldBits, h]

theorem bitsValue_append_bit (l : List Bool) (b : Bool) : bitsValue (l ++ [b]) = 2 * bitsValue l + b.toNat := by
  simp [bitsValue]

/-- The first k bits of a field spell its number without its last n − k bits. -/
theorem bitsValue_prefix {n : Nat} (v : BitVec n) {k : Nat} (hk : k ≤ n) :
    bitsValue ((List.range k).map v.getMsbD) = v.toNat / 2 ^ (n - k) := by
  induction k with
  | zero =>
    have hlt : v.toNat < 2 ^ n := v.isLt
    simp [bitsValue, Nat.div_eq_of_lt hlt]
  | succ k ih =>
    have hpow : (2 : Nat) ^ (n - k) = 2 ^ (n - (k + 1)) * 2 := by rw [← Nat.pow_succ]; congr 1; omega
    have hbit : (v.getMsbD k).toNat = v.toNat / 2 ^ (n - (k + 1)) % 2 := by
      have hsub : n - 1 - k = n - (k + 1) := by omega
      have hk' : k < n := hk
      simp only [BitVec.getMsbD, hk', decide_true, Bool.true_and, BitVec.getLsbD, Nat.testBit_eq_decide_div_mod_eq, hsub]
      rcases Nat.mod_two_eq_zero_or_one (v.toNat / 2 ^ (n - (k + 1))) with h | h <;> simp [h]
    rw [List.range_succ, List.map_append, List.map_singleton, bitsValue_append_bit, ih (by omega), hbit, hpow, ← Nat.div_div_eq_div_mul]
    omega

@[simp] theorem bitsValue_fieldBits {n : Nat} (v : BitVec n) : bitsValue (fieldBits v) = v.toNat := by
  rw [fieldBits, bitsValue_prefix v (le_refl n), Nat.sub_self, Nat.pow_zero, Nat.div_one]

theorem fieldBits_append {m n : Nat} (a : BitVec m) (b : BitVec n) : fieldBits (a ++ b) = fieldBits a ++ fieldBits b := by
  refine List.ext_getElem (by simp) fun i h1 h2 => ?_
  rw [fieldBits_length] at h1
  rw [List.getElem_append]
  simp only [fieldBits, List.getElem_map, List.getElem_range, List.length_map, List.length_range]
  by_cases h : i < m
  · rw [dif_pos h, BitVec.getMsbD_append, if_neg (by omega)]
  · rw [dif_neg h, BitVec.getMsbD_append, if_pos (by omega)]

@[simp] theorem flatMap_fieldBits_length (l : List Byte) : (l.flatMap fieldBits).length = 8 * l.length := by
  induction l with
  | nil => rfl
  | cons b l ih => rw [List.flatMap_cons, List.length_append, ih, fieldBits_length, List.length_cons]; omega

theorem groupBytes_flatMap (l : List Byte) (extra : List Bool) : groupBytes l.length (l.flatMap fieldBits ++ extra) = l := by
  induction l with
  | nil => rfl
  | cons b l ih =>
    rw [List.flatMap_cons, List.append_assoc, List.length_cons, groupBytes, List.take_left' (fieldBits_length b),
      List.drop_left' (fieldBits_length b), ih, bitsValue_fieldBits, BitVec.ofNat_toNat, BitVec.setWidth_eq]

theorem be16_hi8_lo8 (w : Half) : be16 (hi8 w) (lo8 w) = w := by
  simp only [be16, hi8, lo8]
  ext i hi
  simp only [BitVec.getElem_append, BitVec.getElem_extractLsb']
  split
  · simp [BitVec.getLsbD_eq_getElem hi]
  · rw [BitVec.getLsbD_eq_getElem (by omega)]
    congr 1
    omega

theorem be32_bytes (w : BitVec 32) :
    be32 (w.extractLsb' 24 8) (w.extractLsb' 16 8) (w.extractLsb' 8 8) (w.extractLsb' 0 8) = w := by
  simp only [be32]
  ext i hi
  simp only [BitVec.getElem_append, BitVec.getElem_extractLsb']
  split
  · simp [BitVec.getLsbD_eq_getElem hi]
  · split
    · rw [BitVec.getLsbD_eq_getElem (by omega)]; congr 1; omega
    · split
      · rw [BitVec.getLsbD_eq_getElem (by omega)]; congr 1; omega
      · rw [BitVec.getLsbD_eq_getElem (by omega)]; congr 1; omega

end Sys2Proof

namespace Sys2Proof.Machine

/-! ### Port commands -/

/-- The whole bytes of a port command are read as that command. -/
theorem decodeTransaction_encode {c : Instr} {bytes : List Byte} (hwf : c.wf = true) (h : encodeTransaction c = some bytes) :
    decodeTransaction bytes 0 = [c] := by
  cases c
  case unknownOpcode opcode rises =>
    cases rises
    · exact absurd h (by simp [encodeTransaction])
    · obtain rfl := Option.some.inj h
      have hk : opcode ∉ knownOpcodes := by simpa [Instr.wf] using hwf
      simp only [knownOpcodes, List.mem_cons, List.not_mem_nil, or_false, not_or] at hk
      obtain ⟨h1, h2, h3, h4, h5, h6, h7, h8, h9, h10, h11, h12, h13, h14, h15, h16, h17⟩ := hk
      simp only [decodeTransaction, if_neg h1, if_neg h2, if_neg h3, if_neg h4, if_neg h5, if_neg h6, if_neg h7, if_neg h8,
        if_neg h9, if_neg h10, if_neg h11, if_neg h12, if_neg h13, if_neg h14, if_neg h15, if_neg h16, if_neg h17]
  case readStatus rises => cases rises <;> simp [encodeTransaction] at h; subst h; rfl
  case readEvents rises => cases rises <;> simp [encodeTransaction] at h; subst h; rfl
  case readDivergence rises => cases rises <;> simp [encodeTransaction] at h; subst h; rfl
  case readPeer i rises => cases rises <;> simp [encodeTransaction] at h; subst h; rfl
  case readWatch i rises => cases rises <;> simp [encodeTransaction] at h; subst h; rfl
  case post r =>
    obtain rfl := Option.some.inj h
    have hr : recordLength r = some r.length := by simpa [Instr.wf] using hwf
    have hd : decodeTransaction (0x10 :: r) 0 = match recordLength r with
      | some n => [.post (r.take n)]
      | none => [.shortTransaction] := rfl
    rw [hd, hr]
    exact congrArg (fun l => [Instr.post l]) List.take_length
  case clearEvents m =>
    obtain rfl := Option.some.inj h
    exact congrArg (fun m => [Instr.clearEvents m]) (be16_hi8_lo8 m)
  case setMask m =>
    obtain rfl := Option.some.inj h
    exact congrArg (fun m => [Instr.setMask m]) (be16_hi8_lo8 m)
  case setWatch e en x0 y0 x1 y1 =>
    obtain rfl := Option.some.inj h
    exact congrArg₂ (fun a b => [Instr.setWatch e en a y0 b y1]) (be16_hi8_lo8 x0) (be16_hi8_lo8 x1)
  case clearWatchHits => obtain rfl := Option.some.inj h; rfl
  case setCursor => obtain rfl := Option.some.inj h; rfl
  case writeOverlay data rises => cases rises <;> simp [encodeTransaction] at h; subst h; rfl
  case readOverlay n rises =>
    cases rises
    · exact absurd h (by simp [encodeTransaction])
    · obtain rfl := Option.some.inj h
      exact congrArg (fun n => [Instr.readOverlay n true]) List.length_replicate
  case editBegin => obtain rfl := Option.some.inj h; rfl
  case editEnd => obtain rfl := Option.some.inj h; rfl
  case setDisplay => obtain rfl := Option.some.inj h; rfl
  case softReset => obtain rfl := Option.some.inj h; rfl
  all_goals exact absurd h (by simp [encodeTransaction])

/-- Settles O4: by the kinds of commands, and the bits grouped into the bytes they came from. -/
theorem portBytesSpellCommand : Obligations.PortBytesSpellCommand := by
  intro c bytes hwf h
  have hbytes := decodeTransaction_encode hwf h
  refine ⟨hbytes, ?_⟩
  have hgroup := groupBytes_flatMap bytes []
  rw [List.append_nil] at hgroup
  rw [decodeSdi, flatMap_fieldBits_length, Nat.mul_div_cancel_left _ (by decide), Nat.mul_mod_right, hgroup, hbytes]

end Sys2Proof.Machine
end

section
/-! PROOFS. Encodings: the bits of a message, its check, its payloads and its arbitration (chapters 3, 5, 7 and 11). -/

namespace Sys2Proof

/-! ### The bits of a message -/

/-- A field stands where the bits before it end. -/
theorem fieldAt_field (pre post : List Bool) {n : Nat} (v : BitVec n) {start : Nat} (hs : start = pre.length) :
    fieldAt (pre ++ fieldBits v ++ post) start n = v.toNat := by
  subst hs
  rw [fieldAt, List.append_assoc, List.drop_left, List.take_left' (fieldBits_length v), bitsValue_fieldBits]

/-- The fields of an attempt in their order (R40). -/
theorem frameBits_fields (cls : MsgClass) (m : Received) : frameBits cls m =
    [false] ++ fieldBits cls.code ++ fieldBits (BitVec.ofNat 4 m.originator.val) ++ fieldBits m.seq ++ fieldBits m.attempt
      ++ fieldBits (BitVec.ofNat 8 m.payload.length) ++ m.payload.flatMap fieldBits ++ fieldBits (crc16 (coveredBits cls m)) := by
  unfold frameBits
  generalize crc16 (coveredBits cls m) = check
  simp only [coveredBits, arbitrationField, fieldBits_append, List.append_assoc, List.cons_append, List.nil_append]

@[simp] theorem coveredBits_length (cls : MsgClass) (m : Received) : (coveredBits cls m).length = 25 + 8 * m.payload.length := by
  simp [coveredBits]
  omega

@[simp] theorem frameBits_length (cls : MsgClass) (m : Received) : (frameBits cls m).length = 42 + 8 * m.payload.length := by
  simp [frameBits]
  omega

theorem frameBits_covered (cls : MsgClass) (m : Received) :
    ((frameBits cls m).drop 1).take (25 + 8 * m.payload.length) = coveredBits cls m := by
  rw [frameBits, List.drop_one, List.tail_cons, List.take_left' (coveredBits_length cls m)]

theorem fieldAt_class (cls : MsgClass) (m : Received) : fieldAt (frameBits cls m) 1 2 = cls.code.toNat := by
  rw [frameBits_fields]
  simp only [List.append_assoc]
  exact fieldAt_field [false] _ _ rfl

theorem fieldAt_originator (cls : MsgClass) (m : Received) : fieldAt (frameBits cls m) 3 4 = m.originator.val := by
  have h := fieldAt_field ([false] ++ fieldBits cls.code) (fieldBits m.seq ++ fieldBits m.attempt
    ++ fieldBits (BitVec.ofNat 8 m.payload.length) ++ m.payload.flatMap fieldBits ++ fieldBits (crc16 (coveredBits cls m)))
    (BitVec.ofNat 4 m.originator.val) (start := 3) (by simp)
  rw [frameBits_fields]
  simp only [List.append_assoc] at h ⊢
  rw [h, BitVec.toNat_ofNat]
  exact Nat.mod_eq_of_lt m.originator.isLt

theorem fieldAt_seq (cls : MsgClass) (m : Received) : fieldAt (frameBits cls m) 7 8 = m.seq.toNat := by
  have h := fieldAt_field ([false] ++ fieldBits cls.code ++ fieldBits (BitVec.ofNat 4 m.originator.val)) (fieldBits m.attempt
    ++ fieldBits (BitVec.ofNat 8 m.payload.length) ++ m.payload.flatMap fieldBits ++ fieldBits (crc16 (coveredBits cls m)))
    m.seq (start := 7) (by simp)
  rw [frameBits_fields]
  simp only [List.append_assoc] at h ⊢
  exact h

theorem fieldAt_attempt (cls : MsgClass) (m : Received) : fieldAt (frameBits cls m) 15 3 = m.attempt.toNat := by
  have h := fieldAt_field ([false] ++ fieldBits cls.code ++ fieldBits (BitVec.ofNat 4 m.originator.val) ++ fieldBits m.seq)
    (fieldBits (BitVec.ofNat 8 m.payload.length) ++ m.payload.flatMap fieldBits ++ fieldBits (crc16 (coveredBits cls m)))
    m.attempt (start := 15) (by simp)
  rw [frameBits_fields]
  simp only [List.append_assoc] at h ⊢
  exact h

theorem fieldAt_length {m : Received} (hl : m.payload.length ≤ Config.maxPayload) (cls : MsgClass) :
    fieldAt (frameBits cls m) 18 8 = m.payload.length := by
  have h := fieldAt_field ([false] ++ fieldBits cls.code ++ fieldBits (BitVec.ofNat 4 m.originator.val) ++ fieldBits m.seq
    ++ fieldBits m.attempt) (m.payload.flatMap fieldBits ++ fieldBits (crc16 (coveredBits cls m)))
    (BitVec.ofNat 8 m.payload.length) (start := 18) (by simp)
  rw [frameBits_fields]
  simp only [List.append_assoc] at h ⊢
  rw [h, BitVec.toNat_ofNat]
  simp only [Config.maxPayload] at hl
  omega

theorem fieldAt_crc (cls : MsgClass) (m : Received) :
    fieldAt (frameBits cls m) (26 + 8 * m.payload.length) 16 = (crc16 (coveredBits cls m)).toNat := by
  have h := fieldAt_field ([false] ++ coveredBits cls m) [] (crc16 (coveredBits cls m)) (start := 26 + 8 * m.payload.length)
    (by simp; omega)
  rw [List.append_nil] at h
  exact h

theorem frameBits_payload (cls : MsgClass) (m : Received) : groupBytes m.payload.length ((frameBits cls m).drop 26) = m.payload := by
  have h : frameBits cls m = ([false] ++ fieldBits cls.code ++ fieldBits (BitVec.ofNat 4 m.originator.val) ++ fieldBits m.seq
    ++ fieldBits m.attempt ++ fieldBits (BitVec.ofNat 8 m.payload.length)) ++
      (m.payload.flatMap fieldBits ++ fieldBits (crc16 (coveredBits cls m))) := by
    rw [frameBits_fields]
    simp only [List.append_assoc]
  rw [h, List.drop_left' (by simp)]
  exact groupBytes_flatMap _ _

theorem ofCode_code (cls : MsgClass) : MsgClass.ofCode cls.code.toNat = cls := by cases cls <;> rfl

/-- An attempt whose length field is within the bound is read as the reception of its class. -/
theorem decodeFrame_frameBits (cls : MsgClass) {m : Received} (hl : m.payload.length ≤ Config.maxPayload) :
    decodeFrame (frameBits cls m) = some (receptionOf cls m) := by
  have hread : lengthRead (frameBits cls m) = some m.payload.length := by
    rw [lengthRead, if_pos (by rw [frameBits_length]; omega), fieldAt_length hl]
  have hfull : ¬ (frameBits cls m).length < frameLength m.payload.length := by rw [frameBits_length, frameLength]; omega
  simp only [decodeFrame, hread, if_neg (Nat.not_lt.mpr hl), if_neg hfull, frameBits_covered, fieldAt_crc, if_true,
    fieldAt_class, fieldAt_originator, fieldAt_seq, fieldAt_attempt, frameBits_payload, ofCode_code, BitVec.ofNat_toNat,
    BitVec.setWidth_eq]
  have hm : ({ originator := Fin.ofNat 16 m.originator.val, seq := m.seq, attempt := m.attempt, payload := m.payload } : Received)
      = m := by
    obtain ⟨originator, seq, attempt, payload⟩ := m
    simp
  rw [hm]

/-- A shorter run of an attempt's bits hands nothing on. -/
theorem decodeFrame_take (cls : MsgClass) {m : Received} (hl : m.payload.length ≤ Config.maxPayload) {k : Nat}
    (hk : k < (frameBits cls m).length) : decodeFrame ((frameBits cls m).take k) = none := by
  have hlen : ((frameBits cls m).take k).length = k := List.length_take_of_le (Nat.le_of_lt hk)
  by_cases h26 : 26 ≤ k
  · have hfield : fieldAt ((frameBits cls m).take k) 18 8 = m.payload.length := by
      rw [← fieldAt_length hl cls, fieldAt, fieldAt, List.drop_take, List.take_take, Nat.min_eq_left (by omega)]
    rw [frameBits_length] at hk
    have hshort : k < frameLength m.payload.length := hk
    simp only [decodeFrame, lengthRead, hlen, if_pos h26, hfield, if_neg (Nat.not_lt.mpr hl), if_pos hshort]
  · simp only [decodeFrame, lengthRead, hlen, if_neg h26]

/-- A reception's command is the one that its class and its HELLO's state field name. -/
theorem messageOf_wf {c : Instr} {cls : MsgClass} {m : Received} (hwf : c.wf = true) (h : messageOf c = some (cls, m)) :
    m.payload.length ≤ Config.maxPayload ∧ receptionOf cls m = c := by
  cases c
  case canvasReceived | voteReceived | edgeReceived =>
    obtain ⟨rfl, rfl⟩ := Prod.mk.inj (Option.some.inj h)
    exact ⟨of_decide_eq_true hwf, rfl⟩
  case beaconReceived =>
    obtain ⟨rfl, rfl⟩ := Prod.mk.inj (Option.some.inj h)
    obtain ⟨hl, h4⟩ := Bool.and_eq_true_iff.mp hwf
    obtain ⟨hl, h2⟩ := Bool.and_eq_true_iff.mp hl
    exact ⟨of_decide_eq_true hl, (if_neg (of_decide_eq_true h2)).trans (if_neg (of_decide_eq_true h4))⟩
  case joinReceived =>
    obtain ⟨rfl, rfl⟩ := Prod.mk.inj (Option.some.inj h)
    obtain ⟨hl, h2⟩ := Bool.and_eq_true_iff.mp hwf
    exact ⟨of_decide_eq_true hl, if_pos (of_decide_eq_true h2)⟩
  case leaveReceived m =>
    obtain ⟨rfl, rfl⟩ := Prod.mk.inj (Option.some.inj h)
    obtain ⟨hl, h4⟩ := Bool.and_eq_true_iff.mp hwf
    have h4 : m.payload.head? = some 4 := of_decide_eq_true h4
    exact ⟨of_decide_eq_true hl, (if_neg (by rw [h4]; decide)).trans (if_pos h4)⟩
  all_goals exact absurd h (by simp [messageOf])

/-- Settles O5: the fields read back one by one, and no shorter run reaches the length that they give. -/
theorem Machine.messageBitsSpellReception : Obligations.MessageBitsSpellReception := by
  intro c bits hwf h
  obtain ⟨⟨cls, m⟩, hm, rfl⟩ := Option.map_eq_some_iff.mp h
  obtain ⟨hl, rfl⟩ := messageOf_wf hwf hm
  exact ⟨decodeFrame_frameBits cls hl, fun k hk => decodeFrame_take cls hl hk⟩

/-! ### The check -/

theorem crc16_append (bits more : List Bool) : crc16 (bits ++ more) = more.foldl crcStep (crc16 bits) := List.foldl_append

/-- The generator's places below its top: 1, x^5 and x^12 (R41). -/
theorem generator_bit : ∀ i : Fin 16, (0x1021 : Half).getLsbD i.val = decide (i.val = 0 ∨ i.val = 5 ∨ i.val = 12) := by decide

/-- One step of the check register, bit by bit (R41). -/
theorem crcStep_bit (reg : Half) (b : Bool) {i : Nat} (hi : i < 16) : (crcStep reg b).getLsbD i =
    ((decide (1 ≤ i) && reg.getLsbD (i - 1)) ^^ (decide (i = 0 ∨ i = 5 ∨ i = 12) && (reg.getLsbD 15 ^^ b))) := by
  have hshift : (reg <<< 1).getLsbD i = (decide (1 ≤ i) && reg.getLsbD (i - 1)) := by
    rw [BitVec.getLsbD_shiftLeft]
    cases i <;> simp [hi]
  have hmsb : reg.msb = reg.getLsbD 15 := rfl
  unfold crcStep
  dsimp only
  rw [hmsb]
  by_cases hb : reg.getLsbD 15 = b
  · subst hb
    simp [hshift]
  · have hx : (reg.getLsbD 15 ^^ b) = true := by
      cases h : reg.getLsbD 15 <;> cases b <;> simp_all
    rw [if_pos (by simpa using hb), BitVec.getLsbD_xor, hshift, generator_bit ⟨i, hi⟩, hx, Bool.and_true]

/-- A step loses nothing: the bit that leaves is read back at the place of 1, and the others shifted. -/
theorem crcStep_injective (b : Bool) {r q : Half} (h : crcStep r b = crcStep q b) : r = q := by
  have hbit (i : Nat) (hi : i < 16) := congrArg (BitVec.getLsbD · i) h
  have htop : r.getLsbD 15 = q.getLsbD 15 := by
    have h0 := hbit 0 (by decide)
    simp only [crcStep_bit _ _ (show 0 < 16 by decide)] at h0
    simpa using h0
  refine BitVec.eq_of_getLsbD_eq fun i hi => ?_
  by_cases h15 : i = 15
  · rw [h15, htop]
  · have h1 := hbit (i + 1) (by omega)
    simp only [crcStep_bit _ _ (show i + 1 < 16 by omega), htop] at h1
    simpa using h1

/-- The other bit shifted in gives another register. -/
theorem crcStep_ne (reg : Half) (b : Bool) : crcStep reg b ≠ crcStep reg (!b) := by
  intro h
  have h0 := congrArg (BitVec.getLsbD · 0) h
  simp only [crcStep_bit _ _ (show 0 < 16 by decide)] at h0
  cases reg.getLsbD 15 <;> cases b <;> simp at h0

theorem foldl_crcStep_injective (bits : List Bool) {r q : Half} (h : bits.foldl crcStep r = bits.foldl crcStep q) : r = q := by
  induction bits generalizing r q with
  | nil => exact h
  | cons b bits ih => exact crcStep_injective b (ih h)

/-- Settles O7: the step bit by bit, and its injectivity carried over the bits behind the changed one. -/
theorem Machine.crcTellsOneBit : Obligations.CrcTellsOneBit := by
  refine ⟨by decide, fun bits b i hi => ?_, fun cls m covered => ⟨frameBits_length cls m, fun hc i hi => ?_⟩,
    fun before after b h => ?_⟩
  · rw [crc16_append]
    exact crcStep_bit _ _ hi
  · rw [hc, frameBits_covered]
    have hpre : ([false] ++ coveredBits cls m).length = 26 + 8 * m.payload.length := by simp; omega
    have hframe : frameBits cls m = ([false] ++ coveredBits cls m) ++ fieldBits (crc16 (coveredBits cls m)) := rfl
    rw [hframe, List.getElem?_append_right (by omega), hpre, Nat.add_sub_cancel_left, fieldBits_getElem? _ hi, BitVec.getMsbD]
    simp [hi]
  · rw [crc16_append, crc16_append, crc16_append, crc16_append] at h
    exact crcStep_ne _ _ (foldl_crcStep_injective after h)

/-! ### Arbitration -/

theorem foldl_bits (l : List Bool) (acc : Nat) :
    l.foldl (fun acc b => 2 * acc + b.toNat) acc = acc * 2 ^ l.length + bitsValue l := by
  induction l generalizing acc with
  | nil => simp [bitsValue]
  | cons b l ih =>
    have h := ih b.toNat
    rw [bitsValue, List.foldl_cons, List.foldl_cons, ih, Nat.mul_zero, Nat.zero_add, h, List.length_cons, Nat.pow_succ]
    ring

theorem bitsValue_cons (b : Bool) (l : List Bool) : bitsValue (b :: l) = b.toNat * 2 ^ l.length + bitsValue l := by
  rw [bitsValue, List.foldl_cons, foldl_bits]
  simp

theorem bitsValue_lt (l : List Bool) : bitsValue l < 2 ^ l.length := by
  induction l with
  | nil => simp [bitsValue]
  | cons b l ih =>
    rw [bitsValue_cons, List.length_cons, Nat.pow_succ]
    cases b <;> simp <;> omega

end Sys2Proof

namespace Sys2Proof.Machine

/-- Bit by bit, a station is left exactly when no rival's bits spell a lower number. -/
theorem arbitrate_iff (bits : List Bool) (rivals : List (List Bool)) (hlen : ∀ r ∈ rivals, r.length = bits.length) :
    arbitrate bits rivals = true ↔ ∀ r ∈ rivals, bitsValue bits ≤ bitsValue r := by
  induction bits generalizing rivals with
  | nil => simp [arbitrate, bitsValue]
  | cons b bits ih =>
    have hcons (r) (hr : r ∈ rivals) : ∃ x l, r = x :: l ∧ l.length = bits.length := by
      have h := hlen r hr
      cases r with
      | nil => exact absurd h (by simp)
      | cons x l => exact ⟨x, l, rfl, by simpa using h⟩
    have rest (line : Bool) := ih ((rivals.filter fun r => r.headD true == line).map List.tail) fun l hl => by
      obtain ⟨r, hr, rfl⟩ := List.mem_map.mp hl
      obtain ⟨x, l, rfl, h⟩ := hcons r (List.mem_filter.mp hr).1
      exact h
    cases b with
    | false =>
      have hstep : arbitrate (false :: bits) rivals =
          arbitrate bits ((rivals.filter fun r => r.headD true == false).map List.tail) := by simp [arbitrate]
      rw [hstep, rest]
      constructor
      · intro h r hr
        obtain ⟨x, l, rfl, hl⟩ := hcons r hr
        have hlt := bitsValue_lt bits
        cases x with
        | false =>
          have := h l (List.mem_map.mpr ⟨false :: l, List.mem_filter.mpr ⟨hr, rfl⟩, rfl⟩)
          simpa [bitsValue_cons] using this
        | true =>
          rw [bitsValue_cons, bitsValue_cons, hl]
          simp only [Bool.toNat_false, Bool.toNat_true]
          omega
      · intro h l hl
        obtain ⟨r, hr, rfl⟩ := List.mem_map.mp hl
        obtain ⟨hr, hx⟩ := List.mem_filter.mp hr
        obtain ⟨x, l, rfl, _⟩ := hcons r hr
        have hx' : x = false := by simpa using hx
        subst hx'
        simpa [bitsValue_cons] using h _ hr
    | true =>
      by_cases hall : rivals.all (fun r => r.headD true) = true
      · have hstep : arbitrate (true :: bits) rivals =
            arbitrate bits ((rivals.filter fun r => r.headD true == true).map List.tail) := by
          simp only [arbitrate, hall, Bool.true_and, Bool.not_true, Bool.false_eq_true, if_false]
        have hhead (x l) (hr : x :: l ∈ rivals) : x = true := List.all_eq_true.mp hall _ hr
        rw [hstep, rest]
        constructor
        · intro h r hr
          obtain ⟨x, l, rfl, hl⟩ := hcons r hr
          obtain rfl := hhead x l hr
          have := h l (List.mem_map.mpr ⟨true :: l, List.mem_filter.mpr ⟨hr, rfl⟩, rfl⟩)
          rw [bitsValue_cons, bitsValue_cons, hl]
          omega
        · intro h l hl
          obtain ⟨r, hr, rfl⟩ := List.mem_map.mp hl
          obtain ⟨hr, _⟩ := List.mem_filter.mp hr
          obtain ⟨x, l, rfl, hl'⟩ := hcons r hr
          obtain rfl := hhead x l hr
          have := h _ hr
          rw [bitsValue_cons, bitsValue_cons, hl'] at this
          simpa using this
      · have hstep : arbitrate (true :: bits) rivals = false := by
          simp only [arbitrate, Bool.eq_false_of_not_eq_true hall, Bool.true_and, Bool.not_false, if_true]
        rw [hstep]
        refine iff_of_false (by simp) fun h => hall (List.all_eq_true.mpr fun r hr => ?_)
        obtain ⟨x, l, rfl, hl⟩ := hcons r hr
        cases x with
        | true => rfl
        | false =>
          have := h _ hr
          have hlt := bitsValue_lt l
          rw [bitsValue_cons, bitsValue_cons] at this
          simp only [Bool.toNat_false, Bool.toNat_true] at this
          rw [hl] at hlt
          omega

/-- Settles O8, by induction on the bits. -/
theorem lowestArbitrationFieldWins : Obligations.LowestArbitrationFieldWins := by
  intro v rivals
  rw [arbitrate_iff _ _ (by simp)]
  simp

end Sys2Proof.Machine
end

section
/-! PROOFS. Encodings: the payloads of HELLO and EDGE messages (chapters 5, 7 and 11). -/

namespace Sys2Proof.Machine

/-! ### HELLO -/

theorem parseHello_encode (h : Hello) : parseHello (encodeHello h) = some h := by
  cases h with
  | join g e =>
    have hparse : parseHello (encodeHello (.join g e)) =
        if be16 (hi8 e) (lo8 e) = be16 (hi8 e) (lo8 e) then some (.join g (be16 (hi8 e) (lo8 e))) else none := rfl
    rw [hparse, if_pos rfl, be16_hi8_lo8]
  | beacon g e v c d complete =>
    have hparse : parseHello (encodeHello (.beacon g e v c d complete)) =
        some (.beacon g (be16 (hi8 e) (lo8 e)) (be16 (hi8 v) (lo8 v)) (be16 (hi8 c) (lo8 c))
          (be32 (d.extractLsb' 24 8) (d.extractLsb' 16 8) (d.extractLsb' 8 8) (d.extractLsb' 0 8))
          ((if complete then 1 else 0 : Byte).getLsbD 0)) := rfl
    have hflag : (if complete then 1 else 0 : Byte).getLsbD 0 = complete := by cases complete <;> rfl
    rw [hparse, hflag, be16_hi8_lo8, be16_hi8_lo8, be16_hi8_lo8, be32_bytes]
  | leave g => rfl

/-! ### The captured strip -/

theorem stripMask_bit {k : Nat} (hk : k ≤ 8) (i : Nat) : (stripMask k).getLsbD i = decide (i < k) := by
  have hbits : (BitVec.ofNat 8 ((2 ^ 8 - 1) >>> (8 - k))).getLsbD i = decide (i < k) := by
    rw [BitVec.getLsbD_ofNat, Nat.testBit_shiftRight, Nat.testBit_two_pow_sub_one, ← Bool.decide_and, decide_eq_decide]
    omega
  exact hbits

theorem and_stripMask_bit {k : Nat} (hk : k ≤ 8) (v : Byte) (i : Nat) :
    (v &&& stripMask k).getLsbD i = (decide (i < k) && v.getLsbD i) := by
  rw [BitVec.getLsbD_and, stripMask_bit hk, Bool.and_comm]

theorem shiftRight_bit {k : Nat} (hk : k ≤ 8) (v : Byte) (i : Nat) :
    (v >>> (8 - k)).getLsbD i = (decide (i < k) && v.getLsbD (8 - k + i)) := by
  rw [BitVec.getLsbD_ushiftRight]
  by_cases h : i < k
  · simp [h]
  · rw [BitVec.getLsbD_of_ge _ _ (by omega)]
    simp [h]

/-- A byte whose bits from k on are 0 is left by the mask of k strip rows. -/
theorem and_stripMask_of_bits {k : Nat} (hk : k ≤ 8) {v : Byte} (h : ∀ i, ¬ i < k → v.getLsbD i = false) : v &&& stripMask k = v := by
  refine BitVec.eq_of_getLsbD_eq fun i _ => ?_
  rw [and_stripMask_bit hk]
  by_cases hi : i < k
  · simp [hi]
  · simp [hi, h i hi]

theorem captureStrip_length (d : Direction) (k : Nat) (m : Memory) : (captureStrip d k m).length = stripBytes d k := by
  cases d <;> simp [captureStrip, stripBytes, Direction.horizontal]

/-- A captured strip has its reserved bits 0, so that reading it back leaves it (R188). -/
theorem cleanStrip_captureStrip (d : Direction) {k : Nat} (hk : k ≤ 8) (m : Memory) :
    cleanStrip d k (captureStrip d k m) = captureStrip d k m := by
  cases d with
  | left => rfl
  | right => rfl
  | up =>
    refine (List.map_map ..).trans (List.map_congr_left fun c _ => and_stripMask_of_bits hk fun i hi => ?_)
    simp [and_stripMask_bit hk, hi]
  | down =>
    refine (List.map_map ..).trans (List.map_congr_left fun c _ => and_stripMask_of_bits hk fun i hi => ?_)
    simp [shiftRight_bit hk, hi]

theorem ofCode_directionCode (d : Direction) : Direction.ofCode d.code = some d := by cases d <;> rfl

theorem station_low (n : Station) : ((BitVec.ofNat 8 n.val).extractLsb' 0 4).toFin = n := by
  refine Fin.ext ?_
  have hn := n.isLt
  simp

theorem parseEdge_encode (o : Station) (q : Byte) (d : Direction) {k : Nat} (t : Station) (data : List Byte) (h1 : 1 ≤ k) (h8 : k ≤ 8)
    (hlen : data.length = stripBytes d k) (hclean : cleanStrip d k data = data) :
    parseEdge (encodeEdge { originator := o, seq := q, direction := d, k := k, target := t, data := data }) =
      some { originator := o, seq := q, direction := d, k := k, target := t, data := data } := by
  have hk : (BitVec.ofNat 8 k).toNat = k := by simp; omega
  have ht : (BitVec.ofNat 8 t.val).toNat = t.val := toNat_station t
  simp only [encodeEdge, List.cons_append, List.nil_append, parseEdge, ofCode_directionCode, hk, ht, station_low, hlen, hclean,
    h1, h8, and_self, if_true, dif_pos t.isLt]

theorem captureStrip_column (c0 k j b : Nat) (m : Memory) (hj : j < k) (hb : b < 6) :
    ((List.range (6 * k)).map fun i => m.read (byteAddress (i % 6) (c0 + i / 6)))[6 * j + b]? = some (m.read (144 * b + (c0 + j))) := by
  have hdiv : (6 * j + b) / 6 = j := by omega
  have hmod : (6 * j + b) % 6 = b := by omega
  have haddr : byteAddress b (c0 + j) = 144 * b + (c0 + j) := by simp only [byteAddress, Config.tileColumns]; omega
  rw [List.getElem?_map, List.getElem?_range (by omega)]
  simp only [Option.map_some, hdiv, hmod, haddr]

/-- Settles O6: the payloads read back field by field, and the strip byte by byte. -/
theorem payloadsAreReadBack : Obligations.PayloadsAreReadBack := by
  refine ⟨fun h => ⟨parseHello_encode h, by cases h <;> rfl, by cases h <;> rfl⟩, fun o q d k t m h1 h8 => ⟨?_, ?_, ?_, ?_, ?_, ?_⟩⟩
  · exact parseEdge_encode o q d t _ h1 h8 (captureStrip_length d k m) (cleanStrip_captureStrip d h8 m)
  · have hlen := captureStrip_length d k m
    simp only [encodeEdge, List.length_append, hlen]
    cases d <;> simp [stripBytes, Direction.horizontal, Config.tileColumns]
  · rintro rfl j b hj hb
    have h := captureStrip_column 0 k j b m hj hb
    simpa [captureStrip] using h
  · rintro rfl j b hj hb
    exact captureStrip_column (144 - k) k j b m hj hb
  · rintro rfl c hc
    refine ⟨m.read c &&& stripMask k, ?_, fun i _ => and_stripMask_bit h8 _ i⟩
    rw [captureStrip, List.getElem?_map, List.getElem?_range (by exact hc)]
    simp [byteAddress]
  · rintro rfl c hc
    refine ⟨m.read (144 * 5 + c) >>> (8 - k), ?_, fun i _ => shiftRight_bit h8 _ i⟩
    rw [captureStrip, List.getElem?_map, List.getElem?_range (by exact hc)]
    rfl

end Sys2Proof.Machine
end

section
/-! PROOFS. Sending: the arbiter's choice, contention, and an attempt up to the end of its ack field or its break (chapter 3). -/

namespace Sys2Proof.Machine

variable {s : State}

/-! ### The candidates -/

theorem isMember_iff (s : State) : s.isMember = true ↔ s.members.station = .member := decide_eq_true_iff

theorem isMember_of (h : s.members.station = .member) : s.isMember = true := decide_eq_true h

theorem isMember_of_ne (h : s.members.station ≠ .member) : s.isMember = false := decide_eq_false h

theorem voteCandidate_member (h : s.members.station = .member) :
    s.voteCandidate = s.barrier.slot.map fun t => Txn.fresh (.vote t) (s.stream.counter - 1) [hi8 t, lo8 t] := by
  rw [State.voteCandidate, if_pos (isMember_of h)]
  rfl

theorem edgeCandidate_head (h : s.members.station = .member) {r : OutboxRecord} {rest : List OutboxRecord}
    (ho : s.edge.outbox = r :: rest) (hr : s.inRoster r.target = true) :
    s.edgeCandidate = some (Txn.fresh (.edge r.target) (s.stream.counter - 1) (encodeEdge r)) := by
  simp only [State.edgeCandidate, ho, State.edgeEligible, isMember_of h, hr, Bool.and_self, if_true]
  rfl

theorem edgeCandidate_none (h : ∀ r rest, s.edge.outbox = r :: rest → s.edgeEligible r = false) : s.edgeCandidate = none := by
  unfold State.edgeCandidate
  split
  · rename_i r rest ho
    rw [if_neg (by simp [h r rest ho])]
  · rfl

theorem canvasCandidate_head (h : s.members.station = .member) {b : List Byte} {rest : List (List Byte)}
    (ho : s.stream.outbound = b :: rest) (hi : s.stream.inbound.length < 16) :
    s.canvasCandidate = some (Txn.fresh .canvas s.stream.counter b) := by
  simp only [State.canvasCandidate, ho]
  exact if_pos ⟨isMember_of h, hi⟩

theorem canvasCandidate_none (h : s.members.station ≠ .member ∨ s.stream.outbound = [] ∨ 16 ≤ s.stream.inbound.length) :
    s.canvasCandidate = none := by
  unfold State.canvasCandidate
  split
  · rename_i r rest ho
    refine if_neg fun hc => ?_
    rcases h with h | h | h
    · exact h ((isMember_iff s).mp hc.1)
    · rw [ho] at h; exact absurd h (by simp)
    · have := hc.2; simp only [Config.inboundPlaces] at this; omega
  · rfl

/-- Outside MEMBER only a HELLO can be a candidate (R56). -/
theorem candidate_away (h : s.members.station ≠ .member) : s.candidate = s.helloCandidate := by
  have hm := isMember_of_ne h
  have hv : s.voteCandidate = none := by rw [State.voteCandidate, if_neg (by simp [hm])]
  have he : s.edgeCandidate = none := edgeCandidate_none fun r _ _ => by simp [State.edgeEligible, hm]
  rw [State.candidate, hv, he, canvasCandidate_none (.inl h)]
  rfl

/-- The BEACON's digest and its flag are those of the youngest history entry for C, or 0 without one (R99, R126, R127). -/
theorem beaconHello_eq (s : State) : ∃ d complete,
    s.beaconHello = .beacon s.straps.geometryByte s.stream.epoch s.barrier.voted s.barrier.committed d complete ∧
    ((∀ e ∈ s.raster.history, e.epoch ≠ s.barrier.committed) → d = 0 ∧ complete = false) ∧
    ∀ old e new, s.raster.history = old ++ e :: new → e.epoch = s.barrier.committed →
      (∀ f ∈ new, f.epoch ≠ s.barrier.committed) → d = e.digest ∧ complete = e.complete := by
  unfold State.beaconHello lookupHistory
  cases hf : s.raster.history.reverse.find? fun e => decide (e.epoch = s.barrier.committed) with
  | none =>
    refine ⟨0, false, rfl, fun _ => ⟨rfl, rfl⟩, fun old e new hl he _ => ?_⟩
    have hn := List.find?_eq_none.mp hf e (by simp [hl])
    exact absurd he (by simpa using hn)
  | some f =>
    have hmem := List.mem_of_find?_eq_some hf
    have hfe : f.epoch = s.barrier.committed := by simpa using List.find?_some hf
    refine ⟨f.digest, f.complete, rfl, fun hall => absurd hfe (hall f (by simpa using hmem)), fun old e new hl he hnew => ?_⟩
    have hlast : new.reverse.find? (fun e => decide (e.epoch = s.barrier.committed)) = none :=
      List.find?_eq_none.mpr fun g hg => by simpa using hnew g (by simpa using hg)
    rw [hl, List.reverse_append, List.reverse_cons, List.find?_append, List.find?_append, hlast,
      List.find?_singleton] at hf
    simp only [he, decide_true, if_true, Option.none_or, Option.some_or, Option.some.injEq] at hf
    rw [hf]
    exact ⟨rfl, rfl⟩

theorem helloCandidate_none (hb : s.members.station = .member → s.members.hello ≠ some .beacon)
    (hj : s.members.station = .joining → s.members.hello ≠ some .join)
    (hl : s.members.station = .outOfStep → s.members.hello ≠ some .leave) : s.helloCandidate = none := by
  unfold State.helloCandidate
  split
  · rename_i h1 h2; exact absurd h1 (hb h2)
  · rename_i h1 h2; exact absurd h1 (hj h2)
  · rename_i h1 h2; exact absurd h1 (hl h2)
  · rfl

/-- Settles O31, class by class. -/
theorem arbiterChoosesLowestClass : Obligations.ArbiterChoosesLowestClass := by
  intro s
  have novote (h : s.members.station = .member) (hs : s.barrier.slot = none) : s.voteCandidate = none := by
    rw [voteCandidate_member h, hs]; rfl
  have away {st : StationState} (h : s.members.station = st) (hne : st ≠ .member) : s.candidate = s.helloCandidate :=
    candidate_away (h ▸ hne)
  refine ⟨fun t h hs => ?_, fun r rest h hs ho hr => ?_, fun hedge => ?_, fun h hh => ?_, fun h hh => ?_, fun h hh => ?_,
    fun h hh => ?_, fun h => ?_⟩
  · rw [State.candidate, voteCandidate_member h, hs]; rfl
  · rw [State.candidate, novote h hs, edgeCandidate_head h ho hr]; rfl
  · have he : s.edgeCandidate = none := edgeCandidate_none fun r rest ho => by simp [State.edgeEligible, hedge r rest ho]
    refine ⟨fun b rest h hs ho hi => ?_, fun h hs hc hb => ?_, fun h hs hc hb => ?_⟩
    · rw [State.candidate, novote h hs, he, canvasCandidate_head h ho hi]; rfl
    · obtain ⟨d, complete, hello, hdark, hlast⟩ := beaconHello_eq s
      refine ⟨d, complete, ?_, hdark, hlast⟩
      rw [State.candidate, novote h hs, he, canvasCandidate_none (.inr hc), State.helloCandidate, hb, h, ← hello]
      rfl
    · rw [State.candidate, novote h hs, he, canvasCandidate_none (.inr hc)]
      exact helloCandidate_none (fun _ => hb) (fun e => absurd (h.symm.trans e) (by decide))
        fun e => absurd (h.symm.trans e) (by decide)
  · rw [away h (by decide)]
    exact helloCandidate_none (fun e => absurd (h.symm.trans e) (by decide)) (fun _ => hh)
      fun e => absurd (h.symm.trans e) (by decide)
  · rw [away h (by decide)]
    exact helloCandidate_none (fun e => absurd (h.symm.trans e) (by decide)) (fun e => absurd (h.symm.trans e) (by decide))
      fun _ => hh
  · rw [away h (by decide), State.helloCandidate, hh, h]; rfl
  · rw [away h (by decide), State.helloCandidate, hh, h]; rfl
  · have hne (st : StationState) (h1 : st ≠ .listening) (h2 : st ≠ .strapFault) (h3 : st ≠ .busFault) : s.members.station ≠ st := by
      rcases h with h | h | h <;> rw [h]
      exacts [h1.symm, h2.symm, h3.symm]
    rw [candidate_away (hne .member (by decide) (by decide) (by decide))]
    exact helloCandidate_none (fun e => absurd e (hne _ (by decide) (by decide) (by decide)))
      (fun e => absurd e (hne _ (by decide) (by decide) (by decide))) fun e => absurd e (hne _ (by decide) (by decide) (by decide))

/-! ### The outbox check at the choice -/

theorem discardIneligible_frame (s : State) : s.discardIneligible =
    { s with edge := { s.edge with outbox := s.discardIneligible.edge.outbox }, events := s.discardIneligible.events } := by
  unfold State.discardIneligible
  split
  · rfl
  · dsimp only
    rw [raiseIf_eq]
    rfl

theorem tryCapture_frame (s : State) : s.tryCapture =
    { s with edge := { s.edge with outbox := s.tryCapture.edge.outbox, shift := s.tryCapture.edge.shift } } := by
  unfold State.tryCapture
  split
  · split
    · split
      · rfl
      · dsimp only
        split
        · rfl
        · split <;> rfl
    · rfl
  · rfl

theorem tryCapture_outbox (s : State) : s.tryCapture.edge.outbox = s.edge.outbox ∨
    ∃ r, s.tryCapture.edge.outbox = s.edge.outbox ++ [r] := by
  unfold State.tryCapture
  split
  · split
    · split
      · exact .inl rfl
      · dsimp only
        split
        · exact .inl rfl
        · split
          · exact .inr ⟨_, rfl⟩
          · exact .inl rfl
    · exact .inl rfl
  · exact .inl rfl

/-- The outbox check changes the outbox, the shift's step and strip, and the flags alone. -/
theorem recheckOutbox_frame (s : State) : s.recheckOutbox =
    { s with edge := { s.edge with outbox := s.recheckOutbox.edge.outbox, shift := s.recheckOutbox.edge.shift }
             events := s.recheckOutbox.events } := by
  unfold State.recheckOutbox
  rw [discardIneligible_frame s.discardIneligible.tryCapture, tryCapture_frame s.discardIneligible, discardIneligible_frame s]

/-- A capture waits only for a place of a full outbox. -/
theorem tryCapture_settled (h : s.outboxSettled) : s.tryCapture = s := by
  unfold State.tryCapture
  split
  · rename_i x hx
    split
    · rename_i hc
      obtain ⟨hfull, t, ht, hne⟩ := h.2 x hx hc
      rw [ht]
      dsimp only
      rw [if_neg hne, if_neg (Nat.not_lt.mpr hfull)]
    · rfl
  · rfl

theorem recheckOutbox_settled (h : s.outboxSettled) : s.recheckOutbox = s := by
  rw [State.recheckOutbox, discardIneligible_settled h.1, tryCapture_settled h, discardIneligible_settled h.1]

theorem edgeEligible_congr {t : State} (h : t.members.station = s.members.station) (hp : t.peers = s.peers) (r : OutboxRecord) :
    t.edgeEligible r = s.edgeEligible r := by
  unfold State.edgeEligible State.isMember State.inRoster
  rw [h, peer_of_peers hp]

theorem edgeCandidate_isSome (s : State) :
    s.edgeCandidate ≠ none ↔ ∃ r rest, s.edge.outbox = r :: rest ∧ s.edgeEligible r = true := by
  unfold State.edgeCandidate
  cases ho : s.edge.outbox with
  | nil => simp
  | cons r rest =>
    dsimp only
    split
    · exact iff_of_true (by simp) ⟨r, rest, rfl, ‹_›⟩
    · refine iff_of_false (by simp) ?_
      rintro ⟨_, _, h, he⟩
      obtain ⟨rfl, rfl⟩ := List.cons.inj h
      exact absurd he ‹_›

/-- An eligible head stays at its place in the outbox check. -/
theorem recheckOutbox_head {r : OutboxRecord} {rest : List OutboxRecord} (ho : s.edge.outbox = r :: rest)
    (he : s.edgeEligible r = true) : ∃ rest', s.recheckOutbox.edge.outbox = r :: rest' := by
  have head {t : State} {l : List OutboxRecord} (hs : t.members.station = s.members.station) (hp : t.peers = s.peers)
      (hl : t.edge.outbox = r :: l) : t.discardIneligible = t :=
    discardIneligible_settled fun q _ hq => by
      obtain ⟨rfl, _⟩ := List.cons.inj (hl.symm.trans hq)
      rw [edgeEligible_congr hs hp, he]
  have hframe := tryCapture_frame s
  have hst : s.tryCapture.members.station = s.members.station := by rw [hframe]
  have hpe : s.tryCapture.peers = s.peers := by rw [hframe]
  have key : ∃ rest', s.tryCapture.edge.outbox = r :: rest' := by
    rcases tryCapture_outbox s with h | ⟨q, h⟩
    · exact ⟨rest, h.trans ho⟩
    · exact ⟨rest ++ [q], by rw [h, ho]; rfl⟩
  obtain ⟨rest', hr⟩ := key
  exact ⟨rest', by rw [State.recheckOutbox, head rfl rfl ho, head hst hpe hr, hr]⟩

/-- The outbox check leaves a station with a candidate one. -/
theorem candidate_recheckOutbox (h : s.candidate ≠ none) : s.recheckOutbox.candidate ≠ none := by
  have hframe := recheckOutbox_frame s
  have hv : s.recheckOutbox.voteCandidate = s.voteCandidate := by rw [hframe]; rfl
  have hc : s.recheckOutbox.canvasCandidate = s.canvasCandidate := by rw [hframe]; rfl
  have hh : s.recheckOutbox.helloCandidate = s.helloCandidate := by rw [hframe]; rfl
  have he (hs : s.edgeCandidate ≠ none) : s.recheckOutbox.edgeCandidate ≠ none := by
    obtain ⟨r, rest, ho, hr⟩ := (edgeCandidate_isSome s).mp hs
    obtain ⟨rest', ho'⟩ := recheckOutbox_head ho hr
    refine (edgeCandidate_isSome _).mpr ⟨r, rest', ho', ?_⟩
    rw [edgeEligible_congr (s := s) (by rw [hframe]) (by rw [hframe]), hr]
  unfold State.candidate at h ⊢
  rw [hv, hc, hh]
  cases hv' : s.voteCandidate with
  | some x => simp
  | none =>
    rw [hv'] at h
    by_cases hs : s.edgeCandidate = none
    · rw [hs] at h
      cases hu : s.recheckOutbox.edgeCandidate with
      | some x => simp
      | none => exact h
    · obtain ⟨x, hx⟩ := Option.ne_none_iff_exists'.mp (he hs)
      rw [hx]
      simp

/-! ### The arbitration field on the line -/

theorem follow_requiredGap {f : Framing} (hs : f.stage = .frame) (h : f.requiredGap = 11) (b : LineBit) :
    (f.follow b).requiredGap = 11 := by
  have hc : (f.count b).requiredGap = 11 := by unfold Framing.count; split <;> exact h
  simp only [Framing.follow, hs]
  split
  · rfl
  · exact hc

/-- The framing of a station that reads the bits of a message from its start bit on. -/
theorem foldl_follow (bits : List Bool) (f : Framing) (hf : f.Coded) (hs : f.stage = .frame) (hr : f.requiredGap = 11)
    (ha : f.ackDue = false) (g : Framing) (hg : g = bits.foldl (fun f bit => f.follow (.coded (!bit))) f) :
    g.stage = .frame ∧ g.requiredGap = 11 ∧ g.ackDue = false ∧ g.bits = f.bits ++ bits := by
  subst hg
  induction bits generalizing f with
  | nil => exact ⟨hs, hr, ha, by simp⟩
  | cons b bits ih =>
    obtain ⟨h1, h2, h3⟩ := hf.follow hs (!b)
    obtain ⟨k1, k2, k3, k4⟩ := ih _ h3 h1 (follow_requiredGap hs hr _) (follow_ackDue ha _)
    exact ⟨k1, k2, k3, by rw [List.foldl_cons, k4, h2]; simp⟩

theorem arbitrated_frame (field : BitVec 6) : (arbitrated field).stage = .frame ∧ (arbitrated field).requiredGap = 11 ∧
    (arbitrated field).ackDue = false ∧ (arbitrated field).bits = false :: fieldBits field :=
  foldl_follow (fieldBits field) Framing.startBit startBit_coded rfl rfl rfl _ rfl

theorem attemptBits_take (s : State) (x : Txn) : (s.attemptBits x).take 7 = false :: fieldBits (s.arbitration x) := by
  rw [State.attemptBits, frameBits, List.take_succ_cons, coveredBits]
  simp only [List.append_assoc]
  rw [List.take_left' (fieldBits_length _)]
  rfl

theorem foldl_lowest (l : List (BitVec 6)) (a w : BitVec 6) (hw : w = l.foldl (fun a b => if b < a then b else a) a) :
    (w = a ∨ w ∈ l) ∧ w.toNat ≤ a.toNat ∧ ∀ q ∈ l, w.toNat ≤ q.toNat := by
  subst hw
  induction l generalizing a with
  | nil => exact ⟨.inl rfl, le_refl _, fun q hq => absurd hq (by simp)⟩
  | cons b l ih =>
    rw [List.foldl_cons]
    by_cases hb : b < a
    · rw [if_pos hb]
      obtain ⟨h1, h2, h3⟩ := ih b
      have hlt : b.toNat < a.toNat := hb
      refine ⟨.inr ?_, by omega, fun q hq => ?_⟩
      · rcases h1 with h1 | h1
        · rw [h1]; exact List.mem_cons_self
        · exact List.mem_cons_of_mem _ h1
      · rcases List.mem_cons.mp hq with rfl | hq
        · exact h2
        · exact h3 q hq
    · rw [if_neg hb]
      obtain ⟨h1, h2, h3⟩ := ih a
      have hle : a.toNat ≤ b.toNat := Nat.not_lt.mp hb
      refine ⟨h1.imp_right (List.mem_cons_of_mem _), h2, fun q hq => ?_⟩
      rcases List.mem_cons.mp hq with rfl | hq
      · omega
      · exact h3 q hq

/-- The line carries the lowest of the rivals' fields, when one of them is below some field. -/
theorem winnerOf_lowest {rivals : List (BitVec 6)} {v : BitVec 6} (h : ∃ r ∈ rivals, r.toNat < v.toNat) :
    winnerOf rivals ∈ rivals ∧ ∀ q ∈ rivals, (winnerOf rivals).toNat ≤ q.toNat := by
  obtain ⟨h1, _, h3⟩ := foldl_lowest rivals (BitVec.allOnes 6) (winnerOf rivals) rfl
  refine ⟨h1.resolve_left fun e => ?_, h3⟩
  obtain ⟨r, hr, hlt⟩ := h
  have hle := h3 r hr
  rw [e] at hle
  have hv := v.isLt
  simp at hle
  omega

theorem exec_contend (hh : s.held = false) (rivals : List (BitVec 6)) : exec (.contend rivals) s = .next (s.contendWith rivals) := by
  simp [exec, execContend, whenRunning, hh]

theorem mayContend_iff (s : State) : s.mayContend = true ↔ s.bus.tx = none ∧ s.bus.framing.stage = .idle ∧
    s.bus.framing.requiredGap ≤ s.bus.framing.gap ∧ s.candidate ≠ none := by
  simp [State.mayContend, State.gapReached, State.transmitting, Option.isSome_iff_ne_none, and_assoc]

/-- Settles O32: no contention without its conditions, and at one the arbitration of the candidate's field. -/
theorem contentionGoesToTheLowest : Obligations.ContentionGoesToTheLowest := by
  intro rivals s hh
  refine ⟨fun h => ?_, fun htx hst hgap hcand u hu => ?_⟩
  · have hnot : ¬ s.mayContend = true := by
      rw [mayContend_iff]
      rintro ⟨h1, h2, h3, h4⟩
      rcases h with h | h | h | h
      · exact h h1
      · exact h h2
      · omega
      · exact h4 h
    rw [exec_contend hh, State.contendWith, if_neg hnot]
  · have hmay : s.mayContend = true := (mayContend_iff s).mpr ⟨htx, hst, hgap, hcand⟩
    have hbus : u.bus = s.bus := hu ▸ (works_recheckOutbox s).bus
    have hstraps : u.straps = s.straps := hu ▸ (works_recheckOutbox s).keeps.straps
    refine ⟨fun hset => hu.trans (recheckOutbox_settled hset), hu ▸ candidate_recheckOutbox hcand, fun x hx => ?_⟩
    have harb : u.arbitration x = s.arbitration x := by simp only [State.arbitration, hstraps]
    have hrow : s.contendWith rivals =
        if arbitrate (fieldBits (s.arbitration x)) (rivals.map fieldBits) = true then
          (u.setTx (some { x with phase := .sending 7 })).setFraming (arbitrated (s.arbitration x))
        else u.setFraming (arbitrated (winnerOf rivals)) := by
      rw [State.contendWith, if_pos hmay]
      dsimp only
      rw [← hu, hx]
      dsimp only
      rw [harb]
    have hwin := lowestArbitrationFieldWins (s.arbitration x) rivals
    refine ⟨fun hlow => ?_, fun hlow => ?_⟩
    · obtain ⟨h1, h2, h3, h4⟩ := arbitrated_frame (s.arbitration x)
      refine ⟨_, exec_contend hh rivals, ?_⟩
      rw [hrow, if_pos (hwin.mpr hlow)]
      exact ⟨by rw [← hbus]; rfl, rfl, h1, h2, h3, by rw [attemptBits_take]; exact h4⟩
    · obtain ⟨h1, h2, h3, h4⟩ := arbitrated_frame (winnerOf rivals)
      obtain ⟨hmem, hmin⟩ := winnerOf_lowest hlow
      have hnot : ¬ arbitrate (fieldBits (s.arbitration x)) (rivals.map fieldBits) = true := by
        rw [hwin]
        obtain ⟨r, hr, hlt⟩ := hlow
        exact fun hall => absurd (hall r hr) (by omega)
      refine ⟨_, exec_contend hh rivals, ?_⟩
      rw [hrow, if_neg hnot]
      exact ⟨by rw [← hbus]; rfl, h1, h2, h3, _, hmem, hmin, h4⟩

/-! ### An attempt's end -/

/-- Settles O33: the first completion is the delivery and the engine's take. -/
theorem ownRecordIsSelfDelivered : Obligations.OwnRecordIsSelfDelivered := by
  intro s u x p hh hx hp ho hc hu
  have hrow : exec .selfDelivery s = .next (s.completeCrc x) := by
    simp only [exec, execSelfDelivery, whenRunning, hh, Bool.false_eq_true, if_false, hx, hp, ho, hc, and_self, if_true]
  have hdel : s.delivered x = u := hu.symm ▸ rfl
  rw [hrow, completeCrc_delivers s ho hc, hdel]
  refine ⟨rfl, fun hbusy => ?_⟩
  rw [settle_busy]
  rw [hu]
  exact hbusy

end Sys2Proof.Machine
end

section
/-! PROOFS. Sending: the end of an ack field, of a break, and of a transaction, and what its owner does then (chapters 3 to 7). -/

namespace Sys2Proof.Machine

variable {s : State}

/-! ### The end of an ack field -/

theorem exec_ackFieldEnd_acks (hh : s.held = false) {x : Txn} (hx : s.bus.tx = some x) {p : Nat} {seen : List Station}
    (hp : x.phase = .acks p seen) (slots : List Station) :
    exec (.ackFieldEnd slots) s = .next (s.closeAckField x (seen ++ slots)) := by
  simp only [exec, execAckFieldEnd, whenRunning, hh, Bool.false_eq_true, if_false, hx, hp, State.endAckField]

theorem runAfterSlots_last (run : Nat) {slots : List Station} (h : 15 ∈ slots) : runAfterSlots run slots = 0 := by
  have hlast : stations = stations.dropLast ++ [15] := by decide
  have hc : slots.contains 15 = true := by simpa using h
  rw [runAfterSlots, hlast, List.foldl_append, List.foldl_cons, hc]
  rfl

theorem mem_addAcked (acked slots : List Station) (n : Station) : n ∈ addAcked acked slots ↔ n ∈ acked ∨ n ∈ slots := by
  simp [addAcked, mem_stations]

/-- What follows an ack field changes only the acked set, the attempts and the phase, by whether the required set is covered (R51). -/
theorem afterAckField_cases (s : State) (x : Txn) (acked : List Station) (y : Txn) (hy : y = s.afterAckField x acked) :
    y = { x with acked := acked, attempts := y.attempts, phase := y.phase } ∧
      (s.covered x acked = true → y.phase = .closing 0 true ∧ y.attempts = x.attempts) ∧
      (¬ s.covered x acked = true → x.attempts < 8 → y.phase = .sending 0 ∧ y.attempts = x.attempts + 1) ∧
      (¬ s.covered x acked = true → 8 ≤ x.attempts → y.phase = .closing 0 false ∧ y.attempts = x.attempts) := by
  subst hy
  have hcov : s.covered { x with acked := acked } acked = s.covered x acked := rfl
  unfold State.afterAckField
  dsimp only
  rw [hcov]
  by_cases hc : s.covered x acked = true
  · rw [if_pos hc]
    exact ⟨rfl, fun _ => ⟨rfl, rfl⟩, fun h => absurd hc h, fun h => absurd hc h⟩
  · rw [if_neg hc]
    by_cases ha : x.attempts < Config.maxAttempts
    · rw [if_pos ha]
      exact ⟨rfl, fun h => absurd h hc, fun _ _ => ⟨rfl, rfl⟩, fun _ h => absurd ha (Nat.not_lt.mpr h)⟩
    · rw [if_neg ha]
      exact ⟨rfl, fun h => absurd h hc, fun _ h => absurd h ha, fun _ _ => ⟨rfl, rfl⟩⟩

theorem roster_all_iff (s : State) (acked : List Station) :
    s.roster.all acked.contains = true ↔ ∀ n, s.inRoster n = true → n ∈ acked := by
  simp [List.all_eq_true, mem_roster]

/-- Settles O34, by whether the required set of the owner is covered. -/
theorem ackFieldCompletesRepeatsOrExhausts : Obligations.AckFieldCompletesRepeatsOrExhausts := by
  intro slots seen s x p hh hx hp
  have hmem := mem_addAcked x.acked (seen ++ slots)
  obtain ⟨hy, hcovered, hrepeat, hexhausted⟩ := afterAckField_cases s x (addAcked x.acked (seen ++ slots)) _ rfl
  have hacked := congrArg Txn.acked hy
  refine ⟨_, s.afterAckField x (addAcked x.acked (seen ++ slots)), exec_ackFieldEnd_acks hh hx hp slots, rfl, rfl,
    fun h => runAfterSlots_last _ h, fun h => ?_, ?_, fun n => ?_, ?_⟩
  · have hrun : (s.closeAckField x (seen ++ slots)).bus.framing.recRun =
        runAfterSlots (lastRun (s.attemptBits x)) (seen ++ slots) := rfl
    rw [hrun, h]
    rfl
  · rw [hacked]; exact hy
  · rw [hacked, hmem, List.mem_append]
  · intro covered
    have key : s.covered x (addAcked x.acked (seen ++ slots)) = true ↔ covered := by
      simp only [covered, hacked]
      unfold State.covered
      cases x.owner with
      | vote e => exact roster_all_iff s _
      | canvas => exact roster_all_iff s _
      | join => exact roster_all_iff s _
      | edge target => exact List.contains_iff_mem
      | beacon => exact ⟨fun _ => trivial, fun _ => rfl⟩
      | leave => exact ⟨fun _ => trivial, fun _ => rfl⟩
    exact ⟨fun h => hcovered (key.mpr h), fun h => hrepeat (fun hc => h (key.mp hc)), fun h => hexhausted fun hc => h (key.mp hc)⟩

/-! ### A mismatch and its break -/

@[simp] theorem attemptBits_length (s : State) (x : Txn) : (s.attemptBits x).length = 42 + 8 * x.payload.length := by
  rw [State.attemptBits, frameBits_length]
  rfl

theorem exec_mismatch (hh : s.held = false) : exec .mismatch s = .next s.mismatchNow := by
  simp [exec, execMismatch, whenRunning, hh]

theorem mismatchNow_sending {x : Txn} {p : Nat} (hx : s.bus.tx = some x) (hp : x.phase = .sending p) : s.mismatchNow =
    if p + 1 = 42 + 8 * x.payload.length then
      s.startBreak x 16 (s.bus.framing.ackField
        (lastRun ((s.attemptBits x).take p ++ [!((s.attemptBits x)[p]?).getD true])))
    else s.startBreak x 0 (s.bus.framing.follow (.coded (((s.attemptBits x)[p]?).getD true))) := by
  simp only [State.mismatchNow, hx, hp, attemptBits_length]
  rfl

theorem exec_transactionEnd (hh : s.held = false) {x : Txn} (hx : s.bus.tx = some x) {o : Outcome} (ho : x.outcome = some (some o)) :
    exec .transactionEnd s = .next (s.endTransaction x o) := by
  simp only [exec, execTransactionEnd, whenRunning, hh, Bool.false_eq_true, if_false, hx, ho]

theorem exec_transactionEnd_reset (hh : s.held = false) {x : Txn} (hx : s.bus.tx = some x) (ho : x.outcome = some none) :
    exec .transactionEnd s = .next (s.endResetBreak x) := by
  simp only [exec, execTransactionEnd, whenRunning, hh, Bool.false_eq_true, if_false, hx, ho]

theorem afterOwn_eq (f : Framing) (phase : TxPhase) : f.afterOwn phase =
    { stage := .idle, gap := 0, requiredGap := 24, position := 0, bits := [], ackDue := false
      recRun := (f.afterOwn phase).recRun, domRun := (f.afterOwn phase).domRun } := rfl

/-- Settles O35: the break's start by the phase, its end by whom it belongs to, and the framing after it. -/
theorem mismatchBreaksAndAborts : Obligations.MismatchBreaksAndAborts := by
  refine ⟨fun s x hh hx => ⟨fun p hp => ?_, fun p o hp => ?_, fun w l hp hc ha => ?_, fun w l hp => ?_⟩, fun f g phase hg => ?_⟩
  · refine ⟨_, exec_mismatch hh, ?_⟩
    rw [mismatchNow_sending hx hp]
    by_cases hlast : p + 1 = 42 + 8 * x.payload.length
    · rw [if_pos hlast]
      exact ⟨rfl, fun h => absurd hlast h, fun _ => ⟨rfl, rfl⟩⟩
    · rw [if_neg hlast]
      exact ⟨rfl, fun _ => ⟨rfl, rfl⟩, fun h => absurd h hlast⟩
  · rw [exec_mismatch hh]
    simp only [State.mismatchNow, hx, hp]
    rfl
  · have ho : x.outcome = some (some .aborted) := by simp [Txn.outcome, hp, hc]
    have haborts : abortsAfter s.bus.aborts .aborted = s.bus.aborts + 1 := Nat.min_eq_right (Nat.le_succ_of_le ha)
    have hfew : ¬ decide (Config.maxAborts ≤ s.bus.aborts + 1) = true := fun h => by
      have h4 : 4 ≤ s.bus.aborts + 1 := of_decide_eq_true h
      omega
    rw [exec_transactionEnd hh hx ho, State.endTransaction]
    simp only [haborts, if_true, if_neg hfew]
  · have ho : x.outcome = some none := by simp [Txn.outcome, hp]
    rw [exec_transactionEnd_reset hh hx ho]
    rfl
  · subst hg
    refine ⟨afterOwn_eq f phase, fun p complete hp => ?_, fun w l soft hp => ?_⟩
    · subst hp
      exact ⟨rfl, rfl⟩
    · subst hp
      exact ⟨rfl, Nat.le_add_left _ _⟩

/-! ### The non-ackers dropped -/

theorem getElem?_foldl_modify {α : Type} (f : α → α) (hf : ∀ a, f (f a) = f a) (gone : List Station) (l : List α) (i : Nat) :
    (gone.foldl (fun l n => l.modify n.val f) l)[i]? = (l[i]?).map fun a => if ∃ n ∈ gone, n.val = i then f a else a := by
  induction gone generalizing l with
  | nil => simp
  | cons n gone ih =>
    rw [List.foldl_cons, ih, List.getElem?_modify]
    by_cases hn : n.val = i
    · subst hn
      cases l[n.val]? with
      | none => rfl
      | some a => simp [hf]
    · simp [hn]

theorem nonAckers_congr {t : State} (h : t.peers = s.peers) (acked : List Station) : t.nonAckers acked = s.nonAckers acked := by
  have hr : t.inRoster = s.inRoster := funext fun n => by unfold State.inRoster; rw [peer_of_peers h]
  unfold State.nonAckers State.roster
  rw [hr]

/-- The peer table with every MEMBER entry outside an acked set DROPPED (R104). -/
def droppedPeers (l : List Peer) (acked : List Station) : List Peer :=
  l.mapIdx fun i p => if p.state = .member ∧ ∀ n ∈ acked, n.val ≠ i then { p with state := .dropped, silence := none } else p

theorem dropNonAckers_peers (h : s.peers.length = 16) (acked : List Station) :
    (s.nonAckers acked).foldl (fun l n => l.modify n.val Peer.drop) s.peers = droppedPeers s.peers acked := by
  refine List.ext_getElem? fun i => ?_
  rw [getElem?_foldl_modify Peer.drop (fun _ => rfl), droppedPeers, List.getElem?_mapIdx]
  by_cases hi : i < 16
  · have hlt : i < s.peers.length := h ▸ hi
    have hp : s.peer ⟨i, hi⟩ = s.peers[i] := by simp [State.peer, hlt]
    have hiff : (∃ n ∈ s.nonAckers acked, n.val = i) ↔ (s.peers[i].state = .member ∧ ∀ n ∈ acked, n.val ≠ i) := by
      constructor
      · rintro ⟨n, hn, rfl⟩
        obtain ⟨hr, ha⟩ := (mem_nonAckers s acked n).mp hn
        exact ⟨hp ▸ of_decide_eq_true hr, fun m hm e => ha (Fin.ext e ▸ hm)⟩
      · rintro ⟨hm, ha⟩
        exact ⟨⟨i, hi⟩, (mem_nonAckers s acked _).mpr ⟨decide_eq_true (hp ▸ hm), fun hmem => ha _ hmem rfl⟩, rfl⟩
    rw [List.getElem?_eq_getElem hlt]
    exact congrArg some (if_congr hiff rfl rfl)
  · rw [List.getElem?_eq_none (by omega)]
    rfl

/-- Peers dropped for not acking, with PEER_LEFT if there was any. -/
theorem dropNonAckers_eq (h : s.peers.length = 16) (acked : List Station) : s.dropPeers (s.nonAckers acked) =
    { s with peers := droppedPeers s.peers acked
             events := { s.events with
               flags := if (∃ n, s.inRoster n = true ∧ n ∉ acked) then s.events.flags ||| Event.peerLeft.bit
                 else s.events.flags } } := by
  have hany : (!(s.nonAckers acked).isEmpty) = decide (∃ n, s.inRoster n = true ∧ n ∉ acked) := by
    rw [Bool.eq_iff_iff, decide_eq_true_eq, Bool.not_eq_true', List.isEmpty_eq_false_iff_exists_mem]
    exact exists_congr fun n => mem_nonAckers s acked n
  rw [dropPeers_eq, raiseIf_eq, dropNonAckers_peers h, hany]
  simp only [decide_eq_true_eq]

theorem dropsAfter_iff (s : State) (o : Outcome) (ho : o ≠ .aborted) (acked : List Station) :
    s.dropsAfter o acked = true ↔ o ≠ .complete ∧ ∃ n, s.inRoster n = true ∧ n ∉ acked := by
  have hany : (!(s.nonAckers acked).isEmpty) = true ↔ ∃ n, s.inRoster n = true ∧ n ∉ acked := by
    rw [Bool.not_eq_true', List.isEmpty_eq_false_iff_exists_mem]
    exact exists_congr fun n => mem_nonAckers s acked n
  cases o with
  | complete => simp [State.dropsAfter]
  | exhausted => simpa [State.dropsAfter] using hany
  | aborted => exact absurd rfl ho
  | abortedAfterCrc => simpa [State.dropsAfter] using hany

theorem dropAfter_eq {o : Outcome} (h1 : o ≠ .complete) (h2 : o ≠ .aborted) (acked : List Station) :
    s.dropAfter o acked = s.dropPeers (s.nonAckers acked) := by
  cases o with
  | complete => exact absurd rfl h1
  | exhausted => rfl
  | aborted => exact absurd rfl h2
  | abortedAfterCrc => rfl

/-! ### The ends of own transactions -/

/-- The Bus Interface after a transaction that is no fourth abort (R48, R54). -/
def Bus.afterEnd (b : Bus) (x : Txn) (o : Outcome) : Bus :=
  { framing := b.framing.afterOwn x.phase, tx := none, aborts := if o = .abortedAfterCrc then b.aborts + 1 else 0 }

/-- A transaction that delivers its message or gives it up, and is no fourth abort, ends as its owner says. -/
theorem exec_transactionEnd_owner (hh : s.held = false) {x : Txn} (hx : s.bus.tx = some x) {o : Outcome}
    (ho : x.outcome = some (some o)) (hne : o ≠ .aborted) (ha : o = .abortedAfterCrc → s.bus.aborts < 3) :
    exec .transactionEnd s = .next (State.ownerEnds { s with bus := s.bus.afterEnd x o } x o false) := by
  have haborts : abortsAfter s.bus.aborts o = if o = .abortedAfterCrc then s.bus.aborts + 1 else 0 := by
    cases o with
    | complete => rfl
    | exhausted => rfl
    | aborted => exact absurd rfl hne
    | abortedAfterCrc =>
      have := ha rfl
      show min 4 (s.bus.aborts + 1) = s.bus.aborts + 1
      omega
  have hfew : decide (Config.maxAborts ≤ (if o = .abortedAfterCrc then s.bus.aborts + 1 else 0)) = false := by
    rw [decide_eq_false_iff_not]
    split
    · have := ha ‹_›
      show ¬ 4 ≤ s.bus.aborts + 1
      omega
    · decide
  rw [exec_transactionEnd hh hx ho, State.endTransaction]
  simp only [haborts, if_neg hne, hfew, Bool.false_eq_true, if_false]
  rfl

theorem removeOutbound_eq (s : State) : s.removeOutbound = { s with
    stream := { s.stream with outbound := s.stream.outbound.tail }
    events := { s.events with
      flags := if s.stream.outbound.length = 8 then s.events.flags ||| Event.outboundSpace.bit else s.events.flags } } := by
  rw [State.removeOutbound, raiseIf_eq]
  simp only [decide_eq_true_eq]
  rfl

theorem not_nonAcker {acked : List Station} (h : ∀ n, s.inRoster n = true → n ∈ acked) : ¬ ∃ n, s.inRoster n = true ∧ n ∉ acked := by
  rintro ⟨n, hr, ha⟩
  exact ha (h n hr)

/-- Settles O37. -/
theorem canvasTransactionLeavesItsQueue : Obligations.CanvasTransactionLeavesItsQueue := by
  intro s u x o hh hx how ho hne ha hu
  have hrow := exec_transactionEnd_owner hh hx ho hne ha
  have hrem : State.removeOutbound { s with bus := s.bus.afterEnd x o } = u := by rw [removeOutbound_eq, hu]; rfl
  have hdrop := dropsAfter_iff { s with bus := s.bus.afterEnd x o } o hne x.acked
  have hpeers : u.peers = s.peers := by rw [hu]
  simp only [State.ownerEnds, how, hrem] at hrow
  refine ⟨fun h => ?_, fun hc hlen hex => ?_⟩
  · rw [hrow, if_neg]
    rw [hdrop]
    rintro ⟨hnc, hex⟩
    exact h.elim hnc fun hall => not_nonAcker hall hex
  · rw [hrow, if_pos (hdrop.mpr ⟨hc, hex⟩), dropAfter_eq hc hne, dropNonAckers_eq (hpeers ▸ hlen)]
    have hex' : ∃ n, u.inRoster n = true ∧ n ∉ x.acked := by
      obtain ⟨n, hr, hn⟩ := hex
      refine ⟨n, ?_, hn⟩
      unfold State.inRoster
      rw [peer_of_peers hpeers]
      exact hr
    rw [if_pos hex', hpeers]
    rfl

theorem epochAtOrAfter_iff (a b : Epoch) : epochAtOrAfter a b = true ↔ (a.toNat + 65536 - b.toNat) % 65536 < 32768 := by
  have ha := a.isLt
  have hb := b.isLt
  rw [epochAtOrAfter, decide_eq_true_eq, BitVec.toNat_sub]
  omega

/-- Settles O38. -/
theorem ownVoteCountsAtTransactionEnd : Obligations.OwnVoteCountsAtTransactionEnd := by
  refine ⟨epochAtOrAfter_iff, fun s u x e o hh hx how ho hne ha hu => ?_⟩
  have hrow := exec_transactionEnd_owner hh hx ho hne ha
  have hcount : State.countVote { s with bus := s.bus.afterEnd x o } e = u := hu.symm ▸ rfl
  have hdrop := dropsAfter_iff { s with bus := s.bus.afterEnd x o } o hne x.acked
  have hpeers : u.peers = s.peers := by rw [hu]
  have hpending : u.barrier.pending = s.barrier.pending := by rw [hu]
  simp only [State.ownerEnds, how, hcount] at hrow
  refine ⟨fun h => ?_, fun hc hlen hex => ?_⟩
  · have hnone : ¬ State.dropsAfter { s with bus := s.bus.afterEnd x o } o x.acked = true := by
      rw [hdrop]
      rintro ⟨hnc, hex⟩
      exact h.elim hnc fun hall => not_nonAcker hall hex
    rw [hrow, if_neg hnone]
    refine ⟨fun hp => by rw [evaluateCommit_none (hpending.trans hp)], fun b hb => ?_⟩
    rw [evaluateCommit_some (hpending.trans hb)]
    exact ⟨fun hv => by rw [if_pos ((commitReady_iff u b).mpr hv)],
      fun hv => by rw [if_neg fun hr => hv ((commitReady_iff u b).mp hr)]⟩
  · rw [hrow, if_pos (hdrop.mpr ⟨hc, hex⟩), dropAfter_eq hc hne, dropNonAckers_eq (hpeers ▸ hlen)]
    have hex' : ∃ n, u.inRoster n = true ∧ n ∉ x.acked := by
      obtain ⟨n, hr, hn⟩ := hex
      refine ⟨n, ?_, hn⟩
      unfold State.inRoster
      rw [peer_of_peers hpeers]
      exact hr
    have hevents : u.events = s.events := by rw [hu]
    rw [if_pos hex', hpeers, hevents]
    rfl

/-- Settles O39. -/
theorem edgeAndBeaconTransactionsEnd : Obligations.EdgeAndBeaconTransactionsEnd := by
  intro s x o bus hh hx ho hne ha hb
  have hrow := exec_transactionEnd_owner hh hx ho hne ha
  have hbus : s.bus.afterEnd x o = bus := hb.symm
  rw [hbus] at hrow
  refine ⟨fun target how => ?_, fun how => ?_⟩
  · simp only [State.ownerEnds, how, raiseIf_eq] at hrow
    rw [hrow]
    by_cases hmem : target ∈ x.acked
    · have hc : x.acked.contains target = true := by simpa using hmem
      simp only [hc, Bool.not_true, Bool.false_eq_true, if_false, if_pos hmem]
      rfl
    · have hc : x.acked.contains target = false := by simpa using hmem
      simp only [hc, Bool.not_false, if_true, if_neg hmem]
      rfl
  · simp only [State.ownerEnds, how] at hrow
    exact hrow

/-- Settles O40. -/
theorem joinEndsInMemberLeaveInListening : Obligations.JoinEndsInMemberLeaveInListening := by
  intro s x o bus hh hx ho hne ha hb
  have hrow := exec_transactionEnd_owner hh hx ho hne ha
  have hbus : s.bus.afterEnd x o = bus := hb.symm
  rw [hbus] at hrow
  refine ⟨fun how hlen => ?_, fun how => ?_⟩
  · simp only [State.ownerEnds, how, Bool.false_eq_true, if_false, State.enterMember] at hrow
    rw [hrow, dropNonAckers_eq (s := { s with bus := bus }) hlen]
    rfl
  · simp only [State.ownerEnds, how, Bool.false_eq_true, if_false] at hrow
    exact hrow

end Sys2Proof.Machine
end

section
/-! PROOFS. What a station does with another station's message: CANVAS, VOTE and EDGE, and a malformed HELLO (O41, O43, O44, O46). -/

namespace Sys2Proof.Machine

variable {s : State} {m : Received}

/-- The part hands the message of another station, not FOREIGN, to its blocks (R45, R66, R107). -/
structure State.hears (s : State) (m : Received) : Prop where
  follows : s.follows
  short : m.payload.length ≤ Config.maxPayload
  running : s.members.station ≠ .strapFault ∧ s.members.station ≠ .busFault
  other : m.originator ≠ s.straps.n
  known : s.isForeign m.originator = false

theorem State.memberHears.hears (h : s.memberHears m) : s.hears m :=
  ⟨h.1, h.2.2.1, by simp [h.2.1], h.2.2.2.1, h.2.2.2.2⟩

theorem State.observerHears.hears (h : s.observerHears m) : s.hears m :=
  ⟨h.1, h.2.2.1, by rcases h.2.1 with e | e <;> simp [e], h.2.2.2.1, h.2.2.2.2⟩

theorem State.memberHears.isMember (h : s.memberHears m) : s.isMember = true := isMember_of h.2.1

theorem State.observerHears.isMember (h : s.observerHears m) : s.isMember = false :=
  isMember_of_ne (by rcases h.2.1 with e | e <;> simp [e])

theorem State.observerHears.observes (h : s.observerHears m) : s.observes = true := decide_eq_true h.2.1

theorem expected_handed (s : State) (cls : MsgClass) (m : Received) (b : Bool) (n : Station) :
    ((s.handed cls m b).peer n).expected = (s.peer n).expected := by
  rw [peer_handed]
  split <;> simp [Peer.heard_expected]

theorem applied_handed (s : State) (cls : MsgClass) (m : Received) (b : Bool) (n : Station) :
    ((s.handed cls m b).peer n).applied = (s.peer n).applied := by
  rw [peer_handed]
  split <;> simp [Peer.heard_applied]

theorem unlessForeign_handed (h : s.isForeign m.originator = false) (cls : MsgClass) (f : State → State) :
    (s.handed cls m false).unlessForeign m f = f (s.handed cls m false) :=
  if_neg (by rw [isForeign_handed, h]; exact Bool.false_ne_true)

theorem State.hears.exec_canvas (h : s.hears m) :
    exec (.canvasReceived m) s = .next ((s.handed .canvas m false).judgeCanvas m) :=
  congrArg _ ((handOn_follows h.follows h.short h.running.1 h.running.2 h.other _).trans
    (unlessForeign_handed h.known _ _))

theorem State.hears.exec_vote (h : s.hears m) : exec (.voteReceived m) s = .next ((s.handed .vote m false).judgeVote m) :=
  congrArg _ ((handOn_follows h.follows h.short h.running.1 h.running.2 h.other _).trans
    (unlessForeign_handed h.known _ _))

theorem State.hears.exec_edge (h : s.hears m) : exec (.edgeReceived m) s = .next ((s.handed .edge m false).judgeEdge m) :=
  congrArg _ ((handOn_follows h.follows h.short h.running.1 h.running.2 h.other _).trans
    (unlessForeign_handed h.known _ _))

/-- Each of the three rows of a HELLO hands a payload that spells none on as malformed. -/
theorem exec_malformedHello (hf : s.follows) (hl : m.payload.length ≤ Config.maxPayload) (h1 : s.members.station ≠ .strapFault)
    (h2 : s.members.station ≠ .busFault) (ho : m.originator ≠ s.straps.n) (hp : parseHello m.payload = none) {c : Instr}
    (hc : c = .beaconReceived m ∨ c = .joinReceived m ∨ c = .leaveReceived m) :
    exec c s = .next ((s.handed .hello m false).malformedHello m) := by
  have key := fun f => handOn_follows (cls := .hello) hf hl h1 h2 ho f
  rcases hc with rfl | rfl | rfl <;> exact congrArg _ ((key _).trans (by rw [hp]))

theorem State.hears.exec_malformed (h : s.hears m) (hp : parseHello m.payload = none) {c : Instr}
    (hc : c = .beaconReceived m ∨ c = .joinReceived m ∨ c = .leaveReceived m) :
    exec c s = .next ((s.handed .hello m false).malformedHello m) :=
  exec_malformedHello h.follows h.short h.running.1 h.running.2 h.other hp hc

/-! ### CANVAS -/

theorem acceptCanvas_eq (s : State) (m : Received) : s.acceptCanvas m = State.settle { s.decideAck.setExpected m.originator (m.seq + 1) with
    stream := { s.stream with
      epoch := if isPresent s.straps m.payload then s.stream.epoch + 1 else s.stream.epoch
      inbound := s.stream.inbound ++
        [{ bytes := m.payload, originator := m.originator, seq := m.seq
           tag := if isPresent s.straps m.payload then some (s.stream.epoch + 1) else none
           malformed := (parseOp s.straps m.payload).isNone }] }
    events := { s.events with flags :=
      if (parseOp s.straps m.payload).isNone then s.events.flags ||| Event.format.bit else s.events.flags } } := by
  unfold State.acceptCanvas State.appendInbound State.raiseIf
  cases hop : parseOp s.straps m.payload with
  | none =>
    have hno : isPresent s.straps m.payload = false := by unfold isPresent; rw [hop]
    rw [hno]
    rfl
  | some op => cases isPresent s.straps m.payload <;> rfl

/-- Settles O41: the verdict of R67 by the cases of E. -/
theorem canvasIsTakenOrRefused : Obligations.CanvasIsTakenOrRefused := by
  intro m s u h hu
  have hrow : exec (.canvasReceived m) s = .next (match canvasVerdict (s.peer m.originator).expected m.seq s.hasRoom with
      | .accept => u.settle
      | .noRoom => s.handed .canvas m false
      | .duplicate => s.handed .canvas m true
      | .gap => (s.handed .canvas m false).enterOutOfStep) := by
    rw [h.hears.exec_canvas]
    unfold State.judgeCanvas
    rw [if_pos (c := (s.handed .canvas m false).isMember = true) h.isMember, expected_handed, acceptCanvas_eq, hu]
    rfl
  rw [hrow]
  refine ⟨fun he => ?_, fun he => ?_⟩
  · have hv : canvasVerdict (s.peer m.originator).expected m.seq s.hasRoom = if s.hasRoom then .accept else .noRoom := by
      rcases he with e | e <;> simp [e, canvasVerdict]
    refine ⟨fun hroom => ?_, fun hfull => ?_⟩
    · have room : s.hasRoom = true := decide_eq_true hroom
      rw [hv, room]
      refine ⟨rfl, fun hbusy => congrArg _ (settle_busy ?_)⟩
      rw [hu]
      exact hbusy
    · have room : s.hasRoom = false := decide_eq_false (Nat.not_lt.mpr hfull)
      rw [hv, room]
      rfl
  · have hv : canvasVerdict (s.peer m.originator).expected m.seq s.hasRoom = .duplicate := by
      have hne : m.seq ≠ m.seq + 1 := by bv_omega
      simp only [canvasVerdict, he, hne, if_false, BitVec.add_sub_cancel, if_true]
    rw [hv]

/-! ### VOTE -/

theorem parseVote_bytes16 (t : Epoch) : parseVote (bytes16 t) = some t := congrArg some (be16_hi8_lo8 t)

theorem parseVote_none {l : List Byte} (h : l.length ≠ 2) : parseVote l = none := by
  unfold parseVote
  split
  · exact absurd rfl h
  · rfl

theorem showsGap_eq (s : State) (n : Station) (q : Byte) :
    s.showsGap n q = (s.peer n).expected.any fun e => decide (q ≠ e - 1) := by
  unfold State.showsGap
  cases (s.peer n).expected <;> rfl

theorem showsGap_handed (s : State) (cls : MsgClass) (m : Received) (b : Bool) (n : Station) (q : Byte) :
    (s.handed cls m b).showsGap n q = s.showsGap n q := by
  rw [showsGap_eq, showsGap_eq, expected_handed]

/-- In step: E is absent, or the seq field is the number before it. -/
theorem showsGap_inStep {n : Station} {q : Byte} (h : (s.peer n).expected = none ∨ (s.peer n).expected = some (q + 1)) :
    s.showsGap n q = false := by
  rw [showsGap_eq]
  rcases h with e | e <;> simp [e]

/-- Settles O44. -/
theorem voteWaitsForTheLineEnd : Obligations.VoteWaitsForTheLineEnd := by
  intro m s h hstep
  have hrow : exec (.voteReceived m) s = .next (match parseVote m.payload with
      | some t => (s.handed .vote m true).holdVote m.originator t
      | none => s.handed .vote m false) := by
    rw [h.hears.exec_vote]
    unfold State.judgeVote
    rw [if_pos (c := (s.handed .vote m false).isMember = true) h.isMember, showsGap_handed, showsGap_inStep hstep]
    rfl
  refine ⟨fun t ht => ?_, fun hl => ?_⟩
  · rw [hrow, ht, parseVote_bytes16]
    rfl
  · rw [hrow, parseVote_none hl]

/-! ### Observation -/

theorem observeOther_eq (s : State) (n : Station) (q : Byte) : s.observeOther n q = { s.setExpected n (q + 1) with
    members := if s.members.station = .listening ∧ (s.peer n).expected.any (fun e => decide (q ≠ e - 1)) = true then
      { s.members with listenTimer := some 0 } else s.members } := by
  unfold State.observeOther State.reportGap
  rw [showsGap_eq]
  cases (s.peer n).expected.any fun e => decide (q ≠ e - 1)
  · simp only [Bool.false_eq_true, if_false, and_false]
    rfl
  · by_cases hl : s.members.station = .listening
    · have hl' : (s.setExpected n (q + 1)).members.station = .listening := hl
      simp only [hl, hl', if_true, and_self]
      rfl
    · have hl' : ¬ (s.setExpected n (q + 1)).members.station = .listening := hl
      simp only [hl, hl', if_true, if_false, false_and]
      rfl

theorem canvasVerdict_gap (e : Option Byte) (q : Byte) :
    decide (canvasVerdict e q true = .gap) = e.any fun e => decide (q ≠ e ∧ q ≠ e - 1) := by
  cases e with
  | none => rfl
  | some e =>
    by_cases h1 : q = e
    · simp [canvasVerdict, h1]
    · by_cases h2 : q = e - 1 <;> simp [canvasVerdict, h1, h2]

theorem observeCanvas_eq (s : State) (m : Received) : s.observeCanvas m = { s.setExpected m.originator (m.seq + 1) with
    stream := { s.stream with epoch :=
      if (s.peer m.originator).expected ≠ some (m.seq + 1) ∧ isPresent s.straps m.payload = true then s.stream.epoch + 1
      else s.stream.epoch }
    members :=
      if s.members.station = .listening ∧
          (s.peer m.originator).expected.any (fun e => decide (m.seq ≠ e ∧ m.seq ≠ e - 1)) = true then
        { s.members with listenTimer := some 0 } else s.members } := by
  have hep : (if (!decide ((s.peer m.originator).expected = some (m.seq + 1)) && isPresent s.straps m.payload) = true
        then s.stream.epoch + 1 else s.stream.epoch) =
      if (s.peer m.originator).expected ≠ some (m.seq + 1) ∧ isPresent s.straps m.payload = true then s.stream.epoch + 1
      else s.stream.epoch := by simp
  unfold State.observeCanvas
  dsimp only
  rw [hep, canvasVerdict_gap]
  cases (s.peer m.originator).expected.any fun e => decide (m.seq ≠ e ∧ m.seq ≠ e - 1)
  · simp only [Bool.false_eq_true, if_false, and_false]
    rfl
  · unfold State.reportGap
    by_cases hl : s.members.station = .listening
    · rw [if_pos (c := true = true) rfl, if_pos (⟨hl, rfl⟩ : s.members.station = .listening ∧ true = true)]
      exact if_pos hl
    · rw [if_pos (c := true = true) rfl, if_neg fun k : s.members.station = .listening ∧ true = true => hl k.1]
      exact if_neg hl

/-- Settles O43. -/
theorem observersFollowTheStream : Obligations.ObserversFollowTheStream := by
  intro m s u h hu
  have hm (cls : MsgClass) : (s.handed cls m false).isMember = false := h.isMember
  have ho (cls : MsgClass) : (s.handed cls m false).observes = true := h.observes
  have hother (cls : MsgClass) (members : Members) (hmem : members = if s.members.station = .listening ∧
      (s.peer m.originator).expected.any (fun e => decide (m.seq ≠ e - 1)) = true then
        { s.members with listenTimer := some 0 } else s.members) :
      (s.handed cls m false).observeOther m.originator m.seq = { u cls with members := members } := by
    rw [observeOther_eq, expected_handed, hu, hmem]
    rfl
  constructor
  · rw [h.hears.exec_canvas]
    unfold State.judgeCanvas
    rw [hm, ho, observeCanvas_eq, expected_handed, hu]
    rfl
  intro members hmem
  have hrow : exec (.voteReceived m) s = .next (match parseVote m.payload with
      | some t => State.holdVote { u .vote with members := members } m.originator t
      | none => { u .vote with members := members }) := by
    rw [h.hears.exec_vote]
    unfold State.judgeVote
    rw [hm, ho, hother _ _ hmem]
    rfl
  have hbad (c : Instr) (hc : c = .beaconReceived m ∨ c = .joinReceived m ∨ c = .leaveReceived m)
      (hp : parseHello m.payload = none) : exec c s = .next { u .hello with members := members } := by
    rw [h.hears.exec_malformed hp hc]
    unfold State.malformedHello
    rw [isForeign_handed, h.hears.known, hm, ho, hother _ _ hmem]
    rfl
  refine ⟨?_, fun t ht => ?_, fun hl => ?_, fun hp => ⟨hbad _ (.inl rfl) hp, hbad _ (.inr (.inl rfl)) hp, hbad _ (.inr (.inr rfl)) hp⟩⟩
  · rw [h.hears.exec_edge]
    unfold State.judgeEdge
    rw [hm, ho, hother _ _ hmem]
    rfl
  · rw [hrow, ht, parseVote_bytes16, hu]
    rfl
  · rw [hrow, parseVote_none hl]

/-! ### EDGE -/

theorem seqAfter_iff (a b : Byte) :
    seqAfter a b = true ↔ 1 ≤ (a.toNat + 256 - b.toNat) % 256 ∧ (a.toNat + 256 - b.toNat) % 256 ≤ 127 := by
  have ha := a.isLt
  have hb := b.isLt
  rw [seqAfter, decide_eq_true_iff, BitVec.toNat_sub]
  omega

theorem judgeStrip_handed (s : State) (m : Received) (p : EdgePayload) :
    (s.handed .edge m false).judgeStrip p = s.judgeStrip p := by
  unfold State.judgeStrip
  rw [applied_handed]
  rfl

/-- A strip for another station is not judged, and one for this station is taken and acked by its verdict. -/
theorem State.memberHears.exec_edge (h : s.memberHears m)
    (hstep : (s.peer m.originator).expected = none ∨ (s.peer m.originator).expected = some (m.seq + 1)) :
    exec (.edgeReceived m) s = .next (match s.stripForMe m with
      | some p => if (s.judgeStrip p).acks then ((s.handed .edge m false).takeStrip p).decideAck
          else (s.handed .edge m false).takeStrip p
      | none => s.handed .edge m false) := by
  rw [h.hears.exec_edge]
  unfold State.judgeEdge
  rw [if_pos (c := (s.handed .edge m false).isMember = true) h.isMember, showsGap_handed, showsGap_inStep hstep]
  have hsame : (s.handed .edge m false).stripForMe m = s.stripForMe m := rfl
  rw [hsame]
  cases s.stripForMe m with
  | none => rfl
  | some p =>
    dsimp only
    rw [judgeStrip_handed]
    rfl

theorem stripForMe_none (h : parseEdge m.payload = none ∨ ∃ p, parseEdge m.payload = some p ∧ p.target ≠ s.straps.n) :
    s.stripForMe m = none := by
  unfold State.stripForMe
  rcases h with h | ⟨p, h, hn⟩ <;> simp [h]
  exact hn

theorem stripForMe_some {p : EdgePayload} (h : parseEdge m.payload = some p) (hn : p.target = s.straps.n) :
    s.stripForMe m = some p := by
  simp [State.stripForMe, h, hn]

/-- What a strip of a verdict does with the Edge Unit, the shift in progress being known (R143). -/
theorem takeStrip_of {p : EdgePayload} :
    (∀ a, s.judgeStrip p = .discard a → s.takeStrip p = s) ∧
    (∀ x, s.edge.shift = some x → s.judgeStrip p = .fillNow → s.takeStrip p = s.startFill x (some p.data)) ∧
    (∀ x, s.edge.shift = some x → s.judgeStrip p = .hold → s.takeStrip p = s.setShift (some { x with strip := some p.data })) ∧
    (s.judgeStrip p = .store → s.takeStrip p = s.setInbox (s.edge.inbox ++
      [{ originator := p.originator, seq := p.seq, direction := p.direction, k := p.k, data := p.data }])) := by
  refine ⟨fun a h => ?_, fun x hx h => ?_, fun x hx h => ?_, fun h => ?_⟩ <;> simp only [State.takeStrip, h]
  · rw [hx]
  · rw [hx]

theorem find_sameAs {p : EdgePayload} {l before after : List InboxEntry} {e : InboxEntry} (hl : l = before ++ e :: after)
    (ho : e.originator = p.originator) (hq : e.seq = p.seq)
    (hb : ∀ f ∈ before, ¬ (f.originator = p.originator ∧ f.seq = p.seq)) : l.find? p.sameAs = some e := by
  refine List.find?_eq_some_iff_append.mpr ⟨decide_eq_true ⟨ho, hq⟩, before, after, hl, fun f hf => ?_⟩
  simpa [EdgePayload.sameAs, imp_iff_not_or] using hb f hf

theorem find_sameAs_none {p : EdgePayload} {l : List InboxEntry} (h : ∀ f ∈ l, ¬ (f.originator = p.originator ∧ f.seq = p.seq)) :
    l.find? p.sameAs = none :=
  List.find?_eq_none.mpr fun f hf => by simpa [EdgePayload.sameAs, not_and_or] using h f hf

/-- The verdict by the inbox (R143). -/
theorem judgeByInbox_of {p : EdgePayload} :
    (∀ e, s.edge.inbox.find? p.sameAs = some e → s.judgeByInbox p = .discard (decide (e.direction = p.direction ∧ e.k = p.k))) ∧
    (s.edge.inbox.find? p.sameAs = none → s.judgeByInbox p = if s.edge.inbox.length < 2 then .store else .discard false) := by
  refine ⟨fun e h => ?_, fun h => ?_⟩ <;> simp only [State.judgeByInbox, h]
  rfl

/-- The verdict where the strip is for the shift in progress (R143). -/
theorem judgeByShift_for {p : EdgePayload} {x : Shift} (hx : s.edge.shift = some x) (ho : x.originator = p.originator)
    (hq : x.seq = p.seq) : s.judgeByShift p =
      if x.direction ≠ p.direction ∨ x.k ≠ p.k then .discard false
      else if x.strip.isSome ∨ x.step = .fill then .discard true
      else if x.step = .await then .fillNow
      else if (s.edge.inbox.find? p.sameAs).isNone then .hold
      else s.judgeByInbox p := by
  have hfor : p.isFor x = true := decide_eq_true ⟨ho.symm, hq.symm⟩
  simp only [State.judgeByShift, hx, hfor, if_true]

theorem judgeByShift_other {p : EdgePayload} (h : ∀ x, s.edge.shift = some x → ¬ (x.originator = p.originator ∧ x.seq = p.seq)) :
    s.judgeByShift p = s.judgeByInbox p := by
  unfold State.judgeByShift
  cases hx : s.edge.shift with
  | none => rfl
  | some x =>
    have hnot : p.isFor x = false := decide_eq_false fun k => h x hx ⟨k.1.symm, k.2.symm⟩
    dsimp only
    rw [hnot]
    rfl

/-- Settles O46: each case of R143 gives its verdict, and the verdict the row. -/
theorem stripIsJudgedByTheFirstCase : Obligations.StripIsJudgedByTheFirstCase := by
  refine ⟨seqAfter_iff, fun m s h hstep => ⟨fun hp => ?_, fun p hp => ⟨fun hn => ?_, fun hn => ?_⟩⟩⟩
  · rw [h.exec_edge hstep, stripForMe_none (.inl hp)]
  · rw [h.exec_edge hstep, stripForMe_none (.inr ⟨p, hp, hn⟩)]
  have hrow := h.exec_edge hstep
  rw [stripForMe_some hp hn] at hrow
  dsimp only at hrow
  have hu := judgeStrip_handed s m p
  obtain ⟨tdiscard, tfill, thold, tstore⟩ := takeStrip_of (s := s.handed .edge m false) (p := p)
  have discards (a : Bool) (hj : s.judgeStrip p = .discard a) : exec (.edgeReceived m) s = .next (s.handed .edge m a) := by
    rw [hrow, hj, tdiscard a (hu.trans hj)]
    cases a <;> rfl
  refine ⟨fun a ha hs => discards true (judgeStrip_stale ha hs), fun hfresh => ?_⟩
  rw [judgeStrip_fresh hfresh] at hu hrow discards
  obtain ⟨known, unknown⟩ := judgeByInbox_of (s := s) (p := p)
  refine ⟨fun x hx ho hq => ?_, fun hother => ?_⟩
  · have hj := judgeByShift_for hx ho hq
    refine ⟨fun hne => discards false (hj.trans (if_pos hne)), fun hd hk => ?_⟩
    rw [if_neg (by simp [hd, hk])] at hj
    refine ⟨fun hheld => ?_, fun hnone hawait => ?_, fun hnone hearly hfree => ?_, fun hnone hearly e before after hl ho' hq' hb => ?_⟩
    · exact discards true (hj.trans (if_pos (hheld.imp_left Option.isSome_iff_ne_none.mpr)))
    · rw [if_neg (by simp [hnone, hawait]), if_pos hawait] at hj
      rw [hrow, hj]
      dsimp only
      rw [tfill x hx (hu.trans hj)]
      rfl
    · rw [if_neg (by rcases hearly with e | e <;> simp [hnone, e]), if_neg (by rcases hearly with e | e <;> simp [e]),
        find_sameAs_none hfree] at hj
      rw [hrow, hj]
      dsimp only
      rw [thold x hx (hu.trans hj)]
      rfl
    · have hfind := find_sameAs hl ho' hq' hb
      rw [if_neg (by rcases hearly with e | e <;> simp [hnone, e]), if_neg (by rcases hearly with e | e <;> simp [e]),
        hfind] at hj
      exact discards _ (hj.trans (known e hfind))
  · have hj := judgeByShift_other hother
    refine ⟨fun e before after hl ho' hq' hb => ?_, fun hfree => ?_⟩
    · have hv := hj.trans (known e (find_sameAs hl ho' hq' hb))
      refine ⟨fun same => ?_, fun differs => ?_⟩
      · exact discards true (hv.trans (by rw [decide_eq_true same]))
      · exact discards false (hv.trans (by rw [decide_eq_false (by tauto)]))
    · have hv := hj.trans (unknown (find_sameAs_none hfree))
      refine ⟨fun hroom => ?_, fun hfull => ?_⟩
      · rw [if_pos hroom] at hv
        rw [hrow, hv]
        dsimp only
        rw [tstore (hu.trans hv)]
        rfl
      · exact discards false (hv.trans (if_neg (Nat.not_lt.mpr hfull)))

end Sys2Proof.Machine
end

section
/-! PROOFS. The HELLOs of this and of another geometry (O47, O48, O49). -/

namespace Sys2Proof.Machine

variable {s : State} {m : Received}

theorem parseHello_short {l : List Byte} {h : Hello} (hp : parseHello l = some h) : l.length ≤ Config.maxPayload := by
  unfold parseHello at hp
  split at hp
  · cases hp
  · rename_i rest
    have : rest.length ≤ 12 := by
      split at hp
      · split at hp <;> simp_all
      · split at hp
        · split at hp <;> simp_all
        · split at hp
          · split at hp <;> simp_all
          · cases hp
    simp only [List.length_cons, Config.maxPayload]
    omega

/-- What the blocks make of a well-formed HELLO (R93, R96, R100, R103, R107). -/
def State.judgeHello (s : State) (m : Received) : Hello → State
  | .join g e => s.checkGeometry m.originator g fun s => s.judgeJoin m e
  | .beacon g e v c d complete => s.checkGeometry m.originator g fun s => s.judgeBeacon m e v c d complete
  | .leave g => s.checkGeometry m.originator g fun s => s.judgeLeave m

/-- The row that a HELLO of a kind is told by (R92). -/
def Hello.row (h : Hello) (m : Received) : Instr :=
  match h with
  | .join _ _ => .joinReceived m
  | .beacon _ _ _ _ _ _ => .beaconReceived m
  | .leave _ => .leaveReceived m

theorem exec_hello (hf : s.follows) (h1 : s.members.station ≠ .strapFault) (h2 : s.members.station ≠ .busFault)
    (ho : m.originator ≠ s.straps.n) {h : Hello} (hp : parseHello m.payload = some h) :
    exec (h.row m) s = .next ((s.handed .hello m false).judgeHello m h) := by
  have key := fun f => handOn_follows (cls := .hello) hf (parseHello_short hp) h1 h2 ho f
  cases h <;> exact congrArg _ ((key _).trans (by rw [hp]; rfl))

theorem receptionOf_hello {h : Hello} (hp : parseHello m.payload = some h) : receptionOf .hello m = h.row m := by
  obtain ⟨o, q, a, payload⟩ := m
  unfold receptionOf
  cases payload with
  | nil => cases hp
  | cons st rest =>
    simp only [List.head?_cons, Option.some.injEq]
    simp only [parseHello] at hp
    split at hp
    · rename_i h2
      rw [if_pos h2]
      split at hp
      · split at hp
        · obtain rfl := Option.some.inj hp
          rfl
        · cases hp
      · cases hp
    · rename_i h2
      split at hp
      · rename_i h3
        rw [if_neg h2, if_neg (by rw [h3]; decide)]
        split at hp
        · obtain rfl := Option.some.inj hp
          rfl
        · cases hp
      · split at hp
        · rename_i h4
          rw [if_neg h2, if_pos h4]
          split at hp
          · obtain rfl := Option.some.inj hp
            rfl
          · cases hp
        · cases hp

theorem checkGeometry_own (s : State) (o : Station) (f : State → State) : s.checkGeometry o s.straps.geometryByte f = f s := if_pos rfl

theorem judgeHello_otherGeometry {h : Hello} {g : Byte} (hkind : h = .leave g ∨ (∃ a, h = .join g a) ∨ ∃ a b c d f, h = .beacon g a b c d f)
    (hg : g ≠ s.straps.geometryByte) : s.judgeHello m h = (s.raise .geometry).removePeer m.originator .foreign := by
  have key (f : State → State) : s.checkGeometry m.originator g f = (s.raise .geometry).removePeer m.originator .foreign := if_neg hg
  rcases hkind with rfl | ⟨a, rfl⟩ | ⟨a, b, c, d, f, rfl⟩ <;> simp only [State.judgeHello, key]

/-! ### The entry of the sender -/

theorem removePeer_eq (s : State) (n : Station) (d : PeerState) : s.removePeer n d = if s.inRoster n = true then
    State.rosterChanged { s with
      peers := s.peers.modify n.val fun p => { p with state := d, silence := none }
      events := { s.events with flags := s.events.flags ||| Event.peerLeft.bit } }
    else { s with peers := s.peers.modify n.val fun p => { p with state := d, silence := none } } := rfl

theorem modify_peer_congr {n : Station} {f g : Peer → Peer} (h : f (s.peer n) = g (s.peer n)) :
    s.peers.modify n.val f = s.peers.modify n.val g := by
  refine List.ext_getElem? fun i => ?_
  rw [List.getElem?_modify, List.getElem?_modify]
  by_cases hi : n.val = i
  · subst hi
    cases hp : s.peers[n.val]? with
    | none => rfl
    | some p =>
      have hpeer : s.peer n = p := by simp [State.peer, hp]
      rw [hpeer] at h
      simp [h]
  · simp [hi]

/-- A change of the sender's entry after the hand-off, on the entry as it was (R90). -/
theorem modify_handed (s : State) (cls : MsgClass) (m : Received) (b : Bool) (f : Peer → Peer) :
    (s.handed cls m b).peers.modify m.originator.val f = s.peers.modify m.originator.val fun p => f p.heard :=
  List.modify_modify_eq _ _ _ _

theorem inRoster_iff (s : State) (n : Station) : s.inRoster n = true ↔ (s.peer n).state = .member := decide_eq_true_iff

theorem inRoster_setPeer {n : Station} {f : Peer → Peer} (h : (f (s.peer n)).state = .member ↔ (s.peer n).state = .member) :
    (s.setPeer n f).inRoster n = s.inRoster n := by
  unfold State.inRoster
  rcases peer_setPeer_apply s n n f with e | e <;> rw [e]
  exact decide_eq_decide.mpr h

theorem rosterChanged_settled (h : s.nothingWaits) : s.rosterChanged = s := by
  unfold State.rosterChanged
  rw [recheckOutbox_settled h.2, evaluateCommit_none h.1]

/-- Outside MEMBER the outbox check has nothing to do only where the outbox is empty and no capture waits. -/
theorem nothingWaits_away {t : State} (h : s.nothingWaits) (hs : s.members.station ≠ .member) (hb : t.barrier.pending = s.barrier.pending)
    (he : t.edge = s.edge) : t.nothingWaits := by
  have hno (r : OutboxRecord) : s.edgeEligible r = false := by simp [State.edgeEligible, isMember_of_ne hs]
  refine ⟨hb.trans h.1, fun r rest hr => ?_, fun x hx hc => ?_⟩
  · exact absurd (h.2.1 r rest (he ▸ hr)) (by rw [hno]; exact Bool.false_ne_true)
  · obtain ⟨hfull, -⟩ := h.2.2 x (he ▸ hx) hc
    cases ho : s.edge.outbox with
    | nil => rw [ho] at hfull; exact absurd hfull (by decide)
    | cons r rest => exact absurd (h.2.1 r rest ho) (by rw [hno]; exact Bool.false_ne_true)

/-! ### BEACON -/

theorem diverge_eq (s : State) (r : DivergenceRecord) : s.diverge r = { s.setPeer r.peer (fun p => { p with diverged := true }) with
    events := { s.events with flags := s.events.flags ||| Event.diverged.bit }
    members := { s.members with divergence := some (s.members.divergence.getD r) } } := by
  unfold State.diverge
  have hsame : ((s.raise .diverged).setPeer r.peer fun p => { p with diverged := true }).members = s.members := rfl
  dsimp only
  rw [hsame]
  cases hd : s.members.divergence with
  | none => rfl
  | some d =>
    have hm : s.members = { s.members with divergence := some d } := by rw [← hd]
    dsimp only [Option.getD_some]
    rw [← hm]
    rfl

/-- What the comparisons of a roster peer's BEACON find: nothing, or one divergence, of S before the digest (R100, R108, R109, R128). -/
theorem compare_eq (s : State) (o : Station) (e c : Epoch) (d : BitVec 32) (complete : Bool) (differs : Prop)
    (hd : differs ↔ complete = true ∧ ∃ own, lookupHistory s.raster.history c = some own ∧ own.complete = true ∧ own.digest ≠ d) :
    (e = s.stream.epoch → ¬ differs → (s.compareEpoch o e).compareDigest o c d complete = s) ∧
    (e ≠ s.stream.epoch → (s.compareEpoch o e).compareDigest o c d complete = s.diverge
      { peer := o, cause := .streamEpoch, epoch := s.barrier.committed, own := s.stream.epoch.setWidth 32, theirs := e.setWidth 32 }) ∧
    (e = s.stream.epoch → differs → ∃ own, lookupHistory s.raster.history c = some own ∧
      (s.compareEpoch o e).compareDigest o c d complete =
        s.diverge { peer := o, cause := .digest, epoch := c, own := own.digest, theirs := d }) := by
  have hdigest (t : State) (ht : t.raster = s.raster) : (¬ differs → t.compareDigest o c d complete = t) ∧
      (differs → ∃ own, lookupHistory s.raster.history c = some own ∧ t.compareDigest o c d complete =
        t.diverge { peer := o, cause := .digest, epoch := c, own := own.digest, theirs := d }) := by
    unfold State.compareDigest
    rw [ht]
    cases hl : lookupHistory s.raster.history c with
    | none =>
      refine ⟨fun _ => rfl, fun h => ?_⟩
      obtain ⟨_, own, howt, _⟩ := hd.mp h
      rw [hl] at howt
      cases howt
    | some own =>
      have hcond : (complete && own.complete && decide (own.digest ≠ d)) = true ↔ differs := by
        rw [hd, hl]
        simp [and_assoc]
      exact ⟨fun h => if_neg (hcond.not.mpr h), fun h => ⟨own, rfl, if_pos (hcond.mpr h)⟩⟩
  refine ⟨fun he hn => ?_, fun he => ?_, fun he h => ?_⟩
  · rw [State.compareEpoch, if_pos he]
    exact (hdigest s rfl).1 hn
  · rw [State.compareEpoch, if_neg he]
    by_cases h : differs
    · obtain ⟨own, -, hrow⟩ := (hdigest (s.diverge { peer := o, cause := .streamEpoch, epoch := s.barrier.committed
                                                     own := s.stream.epoch.setWidth 32, theirs := e.setWidth 32 })
        (by rw [diverge_eq]; rfl)).2 h
      rw [hrow, diverge_eq, diverge_eq]
      dsimp only [State.setPeer]
      rw [List.modify_modify_eq, BitVec.or_assoc, BitVec.or_self]
      rfl
    · exact (hdigest _ (by rw [diverge_eq]; rfl)).1 h
  · rw [State.compareEpoch, if_pos he]
    exact (hdigest s rfl).2 h

/-- What an observed BEACON or JOIN leaves where it changes no roster, or where nothing waits for a change of it. -/
theorem observeCandidate_quiet {o : Station} (h : s.nothingWaits ∨ s.inRoster o = true) (hs : s.members.station ≠ .member) :
    s.observeCandidate o = s.setPeer o Peer.asMember := by
  unfold State.observeCandidate
  split
  · rfl
  · rename_i hr
    exact rosterChanged_settled (nothingWaits_away (h.resolve_right hr) hs rfl rfl)

/-- Settles O47. -/
theorem beaconIsComparedOrObserved : Obligations.BeaconIsComparedOrObserved := by
  intro m s e v c d complete hp
  have hrow (h : s.hears m) : exec (.beaconReceived m) s =
      .next ((s.handed .hello m false).judgeBeacon m e v c d complete) :=
    exec_hello h.follows h.running.1 h.running.2 h.other hp |>.trans
      (congrArg _ (checkGeometry_own (s.handed .hello m false) m.originator fun u => u.judgeBeacon m e v c d complete))
  refine ⟨fun h hstep => ?_, fun h hwait => ?_⟩
  · have hmem : exec (.beaconReceived m) s = .next (if s.inRoster m.originator then
        (((s.handed .hello m false).compareEpoch m.originator e).compareDigest m.originator c d complete).holdVote m.originator v
        else s.handed .hello m false) := by
      rw [hrow h.hears]
      unfold State.judgeBeacon
      dsimp only
      rw [isForeign_handed, h.hears.known, if_pos (c := (s.handed .hello m false).isMember = true) h.isMember, showsGap_handed,
        showsGap_inStep hstep, inRoster_handed]
      rfl
    refine ⟨fun hr => by rw [hmem, hr]; rfl, fun hr differs hd => ?_⟩
    rw [hr] at hmem
    obtain ⟨same, epochs, digests⟩ := compare_eq (s.handed .hello m false) m.originator e c d complete differs hd
    refine ⟨fun he hn => ?_, fun hdiff => ?_⟩
    · rw [hmem, if_pos rfl, same he hn]
      rfl
    · by_cases he : e = s.stream.epoch
      · obtain ⟨own, hown, heq⟩ := digests he (hdiff.resolve_left (not_not.mpr he))
        refine ⟨_, hmem, ?_⟩
        rw [if_pos rfl, heq, diverge_eq]
        refine ⟨rfl, fun r hr => congrArg some ?_, fun _ hne => absurd he hne, fun hnone _ => ⟨own, hown, congrArg some ?_⟩⟩
        · exact congrArg (Option.getD · _) hr
        · exact congrArg (Option.getD · _) hnone
      · refine ⟨_, hmem, ?_⟩
        rw [if_pos rfl, epochs he, diverge_eq]
        refine ⟨rfl, fun r hr => congrArg some ?_, fun hnone _ => congrArg some ?_, fun _ heq => absurd heq he⟩
        · exact congrArg (Option.getD · _) hr
        · exact congrArg (Option.getD · _) hnone
  · have hst : s.members.station ≠ .member := by rcases h.2.1 with k | k <;> simp [k]
    have hobs := observeOther_eq (s.handed .hello m false) m.originator m.seq
    rw [expected_handed] at hobs
    have hstation : ((s.handed .hello m false).observeOther m.originator m.seq).members.station = s.members.station := by
      rw [hobs]
      exact (apply_ite Members.station _ _ _).trans (ite_self _)
    have hquiet : ((s.handed .hello m false).observeOther m.originator m.seq).nothingWaits ∨
        ((s.handed .hello m false).observeOther m.originator m.seq).inRoster m.originator = true := by
      refine hwait.imp (fun k => nothingWaits_away k hst ?_ ?_) fun k => ?_
      · rw [hobs]; rfl
      · rw [hobs]; rfl
      · rw [hobs]
        exact (inRoster_setPeer (n := m.originator) Iff.rfl).trans ((inRoster_handed s _ _ _ _).trans k)
    rw [hrow h.hears]
    unfold State.judgeBeacon
    dsimp only
    rw [isForeign_handed, h.hears.known, if_neg (c := (s.handed .hello m false).isMember = true) (by
      rw [show (s.handed .hello m false).isMember = false from h.isMember]; exact Bool.false_ne_true),
      if_pos (c := (s.handed .hello m false).observes = true) h.observes,
      observeCandidate_quiet hquiet (hstation.trans_ne hst), hobs]
    dsimp only [State.setPeer, State.setExpected, State.setEpoch, State.holdVote]
    have hpeer : (Peer.asMember ∘ fun p : Peer => { p.heard with expected := some (m.seq + 1) }) =
        fun p => { p with state := .member, silence := some 0, expected := some (m.seq + 1) } := by
      funext p
      rw [Function.comp, Peer.heard]
      split <;> rfl
    rw [modify_handed, List.modify_modify_eq, hpeer]
    rfl

/-! ### JOIN -/

/-- The sender's entry at the end of a JOIN of this geometry, its silence timer restarted first (R90, R107). -/
theorem clearForeign_heard (p : Peer) : p.heard.clearForeign = { p with
    state := match p.state with | .foreign => .absent | st => st
    silence := if p.state = .member then some 0 else p.silence } := by
  obtain ⟨state, silence, expected, applied, voted, diverged⟩ := p
  cases state <;> rfl

theorem inRoster_clearForeign (s : State) (n : Station) : (s.setPeer n Peer.clearForeign).inRoster n = s.inRoster n := by
  refine inRoster_setPeer ?_
  unfold Peer.clearForeign
  split
  · rename_i h
    simp [h]
  · rfl

/-- What follows a JOIN that made an entry MEMBER, by whether the roster changed (R89, R119). -/
theorem afterJoin_of (v : State) :
    v.afterJoin true = v.rosterChanged ∧ (v.barrier.pending = none → v.afterJoin false = v) ∧
    ∀ b, v.barrier.pending = some b →
      (v.voteDone b → v.afterJoin false = (v.commitFor b).settle) ∧ (¬ v.voteDone b → v.afterJoin false = v) := by
  refine ⟨rfl, fun h => evaluateCommit_none h, fun b h => ?_⟩
  have hrow : v.afterJoin false = if v.commitReady b then (v.commitFor b).settle else v := evaluateCommit_some h
  rw [hrow]
  exact ⟨fun k => if_pos ((commitReady_iff v b).mpr k), fun k => if_neg ((commitReady_iff v b).not.mpr k)⟩

/-- The row of a JOIN of this geometry, by the station state (R93, R96, R97, R98). -/
theorem exec_join (hf : s.follows) (h1 : s.members.station ≠ .strapFault) (h2 : s.members.station ≠ .busFault)
    (ho : m.originator ≠ s.straps.n) {e : Epoch} (hp : parseHello m.payload = some (.join s.straps.geometryByte e)) :
    exec (.joinReceived m) s = .next ((s.handed .hello m false).judgeJoin m e) :=
  (exec_hello hf h1 h2 ho hp).trans
    (congrArg _ (checkGeometry_own (s.handed .hello m false) m.originator fun u => u.judgeJoin m e))

/-- The state after a JOIN is admitted, before the roster change is told (R96, R118). -/
theorem judgeJoin_admitted (hm : s.members.station = .member) {e : Epoch} (he : e = s.stream.epoch) :
    (s.handed .hello m false).judgeJoin m e = State.afterJoin { s.handed .hello m true with
      peers := s.peers.modify m.originator.val fun p =>
        { p with state := .member, silence := some 0, expected := some (m.seq + 1), voted := some e }
      events := { s.events with flags := s.events.flags ||| Event.peerJoined.bit } } (!s.inRoster m.originator) := by
  have hpeer : s.peers.modify m.originator.val (fun p =>
        { ({ p.heard.clearForeign with expected := some (m.seq + 1) } : Peer).asMember with voted := some e }) =
      s.peers.modify m.originator.val fun p =>
        { p with state := .member, silence := some 0, expected := some (m.seq + 1), voted := some e } := by
    refine congrArg _ (funext fun p => ?_)
    rw [clearForeign_heard]
    rfl
  have hroster : (((s.handed .hello m false).setPeer m.originator Peer.clearForeign).setExpected m.originator (m.seq + 1)).inRoster
      m.originator = s.inRoster m.originator :=
    (inRoster_setPeer Iff.rfl).trans ((inRoster_clearForeign _ _).trans (inRoster_handed s _ _ _ _))
  unfold State.judgeJoin
  refine (if_pos (isMember_of hm)).trans ((if_pos he).trans ?_)
  unfold State.admitJoin
  dsimp only
  rw [hroster, ← hpeer]
  dsimp only [State.setPeer, State.setExpected, State.raise, State.decideAck]
  rw [modify_handed, List.modify_modify_eq, List.modify_modify_eq]
  rfl

/-- The state after a JOIN is refused (R97, R108): the divergence, and a roster peer made DROPPED. -/
theorem judgeJoin_refused (hm : s.members.station = .member) {e : Epoch} (he : e ≠ s.stream.epoch) (v : State)
    (hv : v = { s.handed .hello m false with
        peers := s.peers.modify m.originator.val fun p => { p with
          state := match p.state with | .member => .dropped | .foreign => .absent | st => st
          silence := if p.state = .member then none else p.silence
          expected := some (m.seq + 1), diverged := true }
        members := { s.members with divergence := some (s.members.divergence.getD
          { peer := m.originator, cause := .joinEpoch, epoch := s.barrier.committed
            own := s.stream.epoch.setWidth 32, theirs := e.setWidth 32 }) }
        events := { s.events with flags :=
          (if s.inRoster m.originator then s.events.flags ||| Event.diverged.bit ||| Event.peerLeft.bit
           else s.events.flags ||| Event.diverged.bit) } }) :
    (s.handed .hello m false).judgeJoin m e = if s.inRoster m.originator then v.rosterChanged else v := by
  have hdiv : ((((s.handed .hello m false).setPeer m.originator Peer.clearForeign).setExpected m.originator (m.seq + 1)).diverge
      { peer := m.originator, cause := .joinEpoch, epoch := s.barrier.committed
        own := s.stream.epoch.setWidth 32, theirs := e.setWidth 32 }) = { v with
      peers := s.peers.modify m.originator.val fun p =>
        { p.heard.clearForeign with expected := some (m.seq + 1), diverged := true }
      events := { s.events with flags := s.events.flags ||| Event.diverged.bit } } := by
    rw [diverge_eq, hv]
    dsimp only [State.setPeer, State.setExpected]
    rw [modify_handed, List.modify_modify_eq, List.modify_modify_eq]
    rfl
  have hroster : (State.inRoster { v with
      peers := s.peers.modify m.originator.val fun p =>
        { p.heard.clearForeign with expected := some (m.seq + 1), diverged := true }
      events := { s.events with flags := s.events.flags ||| Event.diverged.bit } } m.originator) = s.inRoster m.originator := by
    refine inRoster_setPeer (s := s) (f := fun p => { p.heard.clearForeign with expected := some (m.seq + 1), diverged := true }) ?_
    rw [clearForeign_heard]
    cases (s.peer m.originator).state <;> simp
  unfold State.judgeJoin
  refine (if_pos (isMember_of hm)).trans ((if_neg he).trans ?_)
  unfold State.refuseJoin
  refine (congrArg (fun u : State => if u.inRoster m.originator then u.removePeer m.originator .dropped else u) hdiv).trans ?_
  dsimp only
  rw [removePeer_eq, hroster, hv]
  cases hr : s.inRoster m.originator
  · have hpeer : s.peers.modify m.originator.val (fun p =>
          { p.heard.clearForeign with expected := some (m.seq + 1), diverged := true }) =
        s.peers.modify m.originator.val fun p => { p with
          state := match p.state with | .member => .dropped | .foreign => .absent | st => st
          silence := if p.state = .member then none else p.silence
          expected := some (m.seq + 1), diverged := true } := by
      refine modify_peer_congr ?_
      rw [clearForeign_heard]
      have hne : (s.peer m.originator).state ≠ .member := of_decide_eq_false hr
      cases hst : (s.peer m.originator).state <;> simp_all
    rw [hpeer]
    rfl
  · have hpeer : s.peers.modify m.originator.val ((fun p => { p with state := .dropped, silence := none }) ∘
          fun p => { p.heard.clearForeign with expected := some (m.seq + 1), diverged := true }) =
        s.peers.modify m.originator.val fun p => { p with
          state := match p.state with | .member => .dropped | .foreign => .absent | st => st
          silence := if p.state = .member then none else p.silence
          expected := some (m.seq + 1), diverged := true } := by
      refine modify_peer_congr ?_
      have hm : (s.peer m.originator).state = .member := of_decide_eq_true hr
      simp only [Function.comp, clearForeign_heard, hm, if_true]
    rw [List.modify_modify_eq, hpeer]
    rfl

/-- The state after an observed JOIN, where no roster change is told, or nothing waits for one (R93, R118). -/
theorem judgeJoin_observed (hobs : s.members.station = .listening ∨ s.members.station = .joining)
    (hwait : s.nothingWaits ∨ s.inRoster m.originator = true ∧ s.barrier.pending = none) (e : Epoch) :
    (s.handed .hello m false).judgeJoin m e = { s.handed .hello m false with
      peers := s.peers.modify m.originator.val fun p =>
        { p with state := .member, silence := some 0, expected := some (m.seq + 1), voted := some e } } := by
  have hst : s.members.station ≠ .member := by rcases hobs with k | k <;> simp [k]
  have hroster : ((s.handed .hello m false).setPeer m.originator Peer.clearForeign).inRoster m.originator =
      s.inRoster m.originator := (inRoster_clearForeign _ _).trans (inRoster_handed s _ _ _ _)
  have hrow : (s.handed .hello m false).judgeJoin m e =
      State.afterJoin { s.handed .hello m false with
        peers := s.peers.modify m.originator.val fun p =>
          { ({ p.heard.clearForeign with expected := some (m.seq + 1) } : Peer).asMember with voted := some e }}
        (!s.inRoster m.originator) := by
    unfold State.judgeJoin
    refine (if_neg (ne_true_of_eq_false (isMember_of_ne hst))).trans
      ((if_pos (decide_eq_true hobs)).trans ?_)
    dsimp only
    rw [hroster]
    dsimp only [State.setPeer, State.setExpected]
    rw [modify_handed, List.modify_modify_eq, List.modify_modify_eq]
    rfl
  have hpeer : s.peers.modify m.originator.val (fun p =>
        { ({ p.heard.clearForeign with expected := some (m.seq + 1) } : Peer).asMember with voted := some e }) =
      s.peers.modify m.originator.val fun p =>
        { p with state := .member, silence := some 0, expected := some (m.seq + 1), voted := some e } := by
    refine congrArg _ (funext fun p => ?_)
    rw [clearForeign_heard]
    rfl
  rw [hrow, hpeer]
  rcases hwait with hq | ⟨hr, hb⟩
  · cases s.inRoster m.originator
    · exact rosterChanged_settled (nothingWaits_away hq hst rfl rfl)
    · exact evaluateCommit_none hq.1
  · rw [hr]
    exact evaluateCommit_none hb

/-- Settles O48. -/
theorem joinIsAdmittedRefusedOrObserved : Obligations.JoinIsAdmittedRefusedOrObserved := by
  intro m s e hf ho hp
  refine ⟨fun hm he v hv => ?_, fun hm he v hv => ?_, fun hobs hwait => ?_, fun hout => ?_⟩
  · have hrow := exec_join hf (by simp [hm]) (by simp [hm]) ho hp
    rw [judgeJoin_admitted hm he, ← hv] at hrow
    have hpend : v.barrier.pending = s.barrier.pending := by rw [hv]; rfl
    obtain ⟨hchanged, hnone, hsome⟩ := afterJoin_of v
    refine ⟨fun hr => ?_, fun hr => ⟨fun hp => ?_, fun b hb => ?_⟩⟩ <;> rw [hrow, hr]
    · exact congrArg _ hchanged
    · exact congrArg _ (hnone (hpend.trans hp))
    · obtain ⟨hdone, hnot⟩ := hsome b (hpend.trans hb)
      exact ⟨fun k => congrArg _ (hdone k), fun k => congrArg _ (hnot k)⟩
  · rw [exec_join hf (by simp [hm]) (by simp [hm]) ho hp, judgeJoin_refused hm he v]
    rw [hv]
    cases s.members.divergence <;> rfl
  · rw [exec_join hf (by rcases hobs with k | k <;> simp [k]) (by rcases hobs with k | k <;> simp [k]) ho hp,
      judgeJoin_observed hobs hwait]
  · rw [exec_join hf (by simp [hout]) (by simp [hout]) ho hp]
    refine congrArg _ ?_
    have hrow : (s.handed .hello m false).judgeJoin m e = (s.handed .hello m false).setPeer m.originator Peer.clearForeign := by
      unfold State.judgeJoin
      have hmem : s.members.station ≠ .member := by simp [hout]
      have hobs : ¬ (s.members.station = .listening ∨ s.members.station = .joining) := by simp [hout]
      exact (if_neg (ne_true_of_eq_false (isMember_of_ne hmem))).trans (if_neg (ne_true_of_eq_false (decide_eq_false hobs)))
    have hpeer : (fun p : Peer => p.heard.clearForeign) = fun p => { p with
        state := match p.state with | .foreign => .absent | st => st
        silence := if p.state = .member then some 0 else p.silence } := funext clearForeign_heard
    rw [hrow]
    dsimp only [State.setPeer]
    rw [modify_handed]
    exact congrArg (fun f => ({ s.handed .hello m false with peers := s.peers.modify m.originator.val f } : State)) hpeer

/-! ### LEAVE, and another geometry -/

/-- An entry that leaves the roster, where the state it is removed from is v but for the entry and PEER_LEFT (R88, R89). -/
theorem removePeer_of {u v : State} {n : Station} {d : PeerState} {f : Peer → Peer} (r : Bool) (hr : u.inRoster n = r)
    (hp : u.peers.modify n.val (fun p => { p with state := d, silence := none }) = v.peers.modify n.val f)
    (w : State) (hw : w = { u with
      peers := v.peers.modify n.val f
      events := { u.events with flags := if r then u.events.flags ||| Event.peerLeft.bit else u.events.flags } }) :
    u.removePeer n d = if r then w.rosterChanged else w := by
  rw [removePeer_eq, hr, hp, hw]
  cases r <;> rfl

theorem exec_leave (hf : s.follows) (h1 : s.members.station ≠ .strapFault) (h2 : s.members.station ≠ .busFault)
    (ho : m.originator ≠ s.straps.n) (hp : parseHello m.payload = some (.leave s.straps.geometryByte))
    (hknown : s.isForeign m.originator = false) :
    exec (.leaveReceived m) s = .next (
      if s.isMember then
        if s.showsGap m.originator m.seq then (s.handed .hello m false).enterOutOfStep.peerLeaves m.originator
        else (s.handed .hello m false).peerLeaves m.originator
      else if s.observes then ((s.handed .hello m false).observeOther m.originator m.seq).peerLeaves m.originator
      else (s.handed .hello m false).peerLeaves m.originator) := by
  refine ((exec_hello hf h1 h2 ho hp).trans (congrArg _
    (checkGeometry_own (s.handed .hello m false) m.originator fun u => u.judgeLeave m))).trans (congrArg _ ?_)
  unfold State.judgeLeave
  dsimp only
  rw [isForeign_handed, hknown, showsGap_handed]
  rfl

theorem leaves_heard (d : PeerState) : (fun p : Peer => ({ p.heard with state := d, silence := none } : Peer)) =
    fun p => { p with state := d, silence := none } := by
  funext p
  unfold Peer.heard
  split <;> rfl

/-- Settles O49. -/
theorem leaveAndForeignGeometry : Obligations.LeaveAndForeignGeometry := by
  intro m s hf ho _
  refine ⟨fun hp hknown hst v hv => ?_, fun h g hp hkind hg h1 h2 v hv => ?_⟩
  · have hrun : s.members.station ≠ .strapFault ∧ s.members.station ≠ .busFault := by
      rcases hst with ⟨k, -⟩ | k | k | k <;> simp [k]
    rw [exec_leave hf hrun.1 hrun.2 ho hp hknown]
    refine congrArg _ ?_
    by_cases hobs : s.members.station = .listening ∨ s.members.station = .joining
    · have hmem : s.members.station ≠ .member := by rcases hobs with k | k <;> simp [k]
      refine (if_neg (ne_true_of_eq_false (isMember_of_ne hmem))).trans ((if_pos (decide_eq_true hobs)).trans ?_)
      have hu := observeOther_eq (s.handed .hello m false) m.originator m.seq
      rw [expected_handed] at hu
      have hpeer : (fun p : Peer => ({ p.heard with state := .absent, silence := none, expected := some (m.seq + 1) } : Peer)) =
          fun p => { p with
            state := .absent, silence := none
            expected := if s.members.station = .listening ∨ s.members.station = .joining then some (m.seq + 1) else p.expected } := by
        funext p
        unfold Peer.heard
        rw [if_pos hobs]
        split <;> rfl
      refine removePeer_of (v := s) _ ?_ (f := fun p => { p.heard with state := .absent, silence := none, expected := some (m.seq + 1) })
        ?_ v ?_ <;> rw [hu]
      · exact (inRoster_setPeer Iff.rfl).trans (inRoster_handed s _ _ _ _)
      · dsimp only [State.setExpected, State.setPeer]
        rw [modify_handed, List.modify_modify_eq]
        rfl
      · rw [hv, hpeer]
        rfl
    · have hquiet : (if s.isMember then
          if s.showsGap m.originator m.seq then (s.handed .hello m false).enterOutOfStep.peerLeaves m.originator
          else (s.handed .hello m false).peerLeaves m.originator
        else if s.observes then ((s.handed .hello m false).observeOther m.originator m.seq).peerLeaves m.originator
        else (s.handed .hello m false).peerLeaves m.originator) = (s.handed .hello m false).peerLeaves m.originator := by
        rw [if_neg (c := s.observes = true) (ne_true_of_eq_false (decide_eq_false hobs))]
        rcases hst with ⟨-, hstep⟩ | k | k | k
        · rw [showsGap_inStep hstep]
          exact ite_self _
        · exact absurd (.inl k) hobs
        · exact absurd (.inr k) hobs
        · exact if_neg (ne_true_of_eq_false (isMember_of_ne (by simp [k])))
      rw [hquiet]
      refine removePeer_of (v := s) _ (inRoster_handed s _ _ _ _) (f := fun p => { p with state := .absent, silence := none }) ?_ v ?_
      · rw [modify_handed, leaves_heard]
      · have hnot : ¬ (s.members.station = .listening ∧
            (s.peer m.originator).expected.any (fun f => decide (m.seq ≠ f - 1)) = true) := fun k => hobs (.inl k.1)
        rw [hv]
        simp only [if_neg hobs, if_neg hnot]
        rfl
  · have hgeom : exec (receptionOf .hello m) s =
        .next (((s.handed .hello m false).raise .geometry).removePeer m.originator .foreign) := by
      rw [receptionOf_hello hp, exec_hello hf h1 h2 ho hp]
      refine congrArg _ ?_
      rcases hkind with rfl | ⟨a, rfl⟩ | ⟨a, b, c, d, f, rfl⟩ <;> exact if_neg hg
    rw [hgeom]
    refine congrArg _ (removePeer_of (u := (s.handed .hello m false).raise .geometry) (v := s) _ (inRoster_handed s .hello m false _)
      (f := fun p => { p with state := .foreign, silence := none }) ?_ v ?_)
    · exact (modify_handed s .hello m false _).trans (by rw [leaves_heard])
    · rw [hv]
      cases s.inRoster m.originator <;> rfl

end Sys2Proof.Machine
end

section
/-! PROOFS. The roster change and the outbox check, the timers' ends and the commit (O51, O52, O53). -/

namespace Sys2Proof.Machine

variable {s : State}

/-! ### The outbox check -/

/-- The outbox check's first and last part: what it leaves of a queue is the queue from its first record on that is eligible, or that is
being sent (R57). -/
def State.checked (s : State) (eligible : OutboxRecord → Bool) (queued : List OutboxRecord) (shift : Option Shift) : State :=
  { s with
    edge := { s.edge with outbox := queued.dropWhile (fun r => !eligible r), shift := shift }
    events := { s.events with flags :=
      (if queued.head?.any (fun r => !eligible r) then s.events.flags ||| Event.edgeLost.bit else s.events.flags) } }

theorem sendingEdge_iff (s : State) : s.sendingEdge = true ↔ ∃ x n, s.bus.tx = some x ∧ x.owner = .edge n := by
  unfold State.sendingEdge
  cases s.bus.tx with
  | none => simp
  | some x => cases hx : x.owner <;> simp [hx]

theorem edgeEligible_iff (s : State) (r : OutboxRecord) :
    s.edgeEligible r = true ↔ s.members.station = .member ∧ (s.peer r.target).state = .member := by
  rw [State.edgeEligible, Bool.and_eq_true, isMember_iff, inRoster_iff]

theorem dropWhile_shorter {α : Type} (p : α → Bool) (l : List α) : (l.dropWhile p).length < l.length ↔ l.head?.any p = true := by
  cases l with
  | nil => simp
  | cons a l =>
    rw [List.dropWhile_cons]
    have := (List.dropWhile_sublist p (l := l)).length_le
    cases hp : p a
    · simp [hp]
    · simpa [hp] using Nat.lt_succ_of_le this

theorem dropWhile_again {α : Type} (p : α → Bool) (l : List α) : (l.dropWhile p).dropWhile p = l.dropWhile p := by
  induction l with
  | nil => rfl
  | cons a l ih =>
    cases h : p a
    · simp [h]
    · simpa [List.dropWhile_cons, h] using ih

theorem dropWhile_head {α : Type} (p : α → Bool) (l : List α) : (l.dropWhile p).head?.any p = false := by
  induction l with
  | nil => rfl
  | cons a l ih =>
    cases h : p a
    · simp [h]
    · rwa [List.dropWhile_cons, if_pos h]

theorem discardIneligible_eq {eligible : OutboxRecord → Bool}
    (h : ∀ r, eligible r = true ↔ s.edgeEligible r = true ∨ s.sendingEdge = true) :
    s.discardIneligible = s.checked eligible s.edge.outbox s.edge.shift := by
  unfold State.discardIneligible
  by_cases hs : s.sendingEdge = true
  · have hall : (fun r => !eligible r) = fun _ => false := funext fun r => by simp [(h r).mpr (.inr hs)]
    have hnone (o : Option OutboxRecord) : o.any (fun _ => false) = false := by cases o <;> rfl
    have hkeep (l : List OutboxRecord) : l.dropWhile (fun _ => false) = l := by cases l <;> rfl
    rw [if_pos hs, State.checked, hall, hnone, hkeep]
    rfl
  · have hsame : eligible = s.edgeEligible := funext fun r => Bool.eq_iff_iff.mpr ((h r).trans (or_iff_left hs))
    rw [if_neg hs]
    dsimp only
    rw [raiseIf_eq, State.checked, hsame]
    have hlost := dropWhile_shorter (fun r => !s.edgeEligible r) s.edge.outbox
    have hflag : decide ((s.edge.outbox.dropWhile fun r => !s.edgeEligible r).length < s.edge.outbox.length) =
        s.edge.outbox.head?.any fun r => !s.edgeEligible r := by
      rw [Bool.eq_iff_iff, decide_eq_true_iff]
      exact hlost
    rw [hflag]
    rfl

/-- A queue checked, a record appended, and the queue checked again is the longer queue checked once. -/
theorem checked_append (s : State) (eligible : OutboxRecord → Bool) (l : List OutboxRecord) (q : OutboxRecord) (x y : Option Shift) :
    (s.checked eligible l x).checked eligible (l.dropWhile (fun r => !eligible r) ++ [q]) y = s.checked eligible (l ++ [q]) y := by
  have hdrop : (l.dropWhile (fun r => !eligible r) ++ [q]).dropWhile (fun r => !eligible r) =
      (l ++ [q]).dropWhile fun r => !eligible r := by
    induction l with
    | nil => rfl
    | cons r l ih =>
      cases hr : eligible r
      · simpa [List.dropWhile_cons, hr] using ih
      · simp [hr]
  have hflag : (if (l.dropWhile (fun r => !eligible r) ++ [q]).head?.any (fun r => !eligible r) then
        (s.checked eligible l x).events.flags ||| Event.edgeLost.bit else (s.checked eligible l x).events.flags) =
      if (l ++ [q]).head?.any (fun r => !eligible r) then s.events.flags ||| Event.edgeLost.bit else s.events.flags := by
    cases l with
    | nil => rfl
    | cons r l =>
      cases hr : eligible r
      · simp [State.checked, hr, BitVec.or_assoc]
      · simp [State.checked, hr]
  unfold State.checked at hflag ⊢
  dsimp only at hflag ⊢
  rw [hdrop, hflag]

theorem checked_twice (s : State) (eligible : OutboxRecord → Bool) (l : List OutboxRecord) (x y : Option Shift) :
    (s.checked eligible l x).checked eligible (l.dropWhile fun r => !eligible r) y = s.checked eligible l y := by
  unfold State.checked
  dsimp only
  rw [dropWhile_head, dropWhile_again]
  rfl

theorem tryCapture_capture {x : Shift} (hx : s.edge.shift = some x) (hc : x.step = .capture) :
    (s.straps.target x.direction x.rotate = none → s.tryCapture = s.setShift (some { x with step := .move })) ∧
    (s.straps.target x.direction x.rotate = some s.straps.n.val → s.tryCapture =
      s.setShift (some { x with step := .move, strip := some (captureStrip x.direction x.k s.drawPlane) })) ∧
    ∀ n : Station, n ≠ s.straps.n → s.straps.target x.direction x.rotate = some n.val → s.tryCapture =
      if s.edge.outbox.length < 2 then (s.setOutbox (s.edge.outbox ++ [{
        originator := x.originator, seq := x.seq, direction := x.direction, k := x.k, target := n
        data := captureStrip x.direction x.k s.drawPlane }])).setShift (some { x with step := .move }) else s := by
  have hstation (n : Station) : Fin.ofNat 16 n.val = n := Fin.ext (Nat.mod_eq_of_lt n.isLt)
  refine ⟨fun ht => ?_, fun ht => ?_, fun n hn ht => ?_⟩ <;> simp only [State.tryCapture, hx, hc, if_true, ht]
  rw [if_neg fun k => hn (Fin.ext k), hstation]
  rfl

/-- The check of the outbox by the cases of the shift in progress (R57, R136, R145). -/
theorem recheckOutbox_eq {eligible : OutboxRecord → Bool}
    (h : ∀ r, eligible r = true ↔ s.edgeEligible r = true ∨ s.sendingEdge = true) :
    s.recheckOutbox = (s.checked eligible s.edge.outbox s.edge.shift).tryCapture.checked eligible
      (s.checked eligible s.edge.outbox s.edge.shift).tryCapture.edge.outbox
      (s.checked eligible s.edge.outbox s.edge.shift).tryCapture.edge.shift := by
  unfold State.recheckOutbox
  rw [discardIneligible_eq h]
  refine discardIneligible_eq fun r => ?_
  rw [h, tryCapture_frame]
  rfl

/-- Settles O51. -/
theorem rosterChangeFreesWhatWaits : Obligations.RosterChangeFreesWhatWaits := by
  intro s
  refine ⟨rosterChanged_settled, fun hset b hb => ?_, fun hb => ?_, fun eligible checked he hchecked => ?_⟩
  · have hrow : s.rosterChanged = if s.commitReady b then (s.commitFor b).settle else s := by
      rw [State.rosterChanged, recheckOutbox_settled hset, evaluateCommit_some hb]
    rw [hrow]
    exact ⟨fun k => if_pos ((commitReady_iff s b).mpr k), fun k => if_neg ((commitReady_iff s b).not.mpr k)⟩
  · exact evaluateCommit_none (by rw [recheckOutbox_frame]; exact hb)
  have he' (r : OutboxRecord) : eligible r = true ↔ s.edgeEligible r = true ∨ s.sendingEdge = true := by
    rw [he, edgeEligible_iff, sendingEdge_iff]
  obtain rfl : checked = s.checked eligible := funext fun l => funext fun x => hchecked l x
  have hrow := recheckOutbox_eq he'
  refine ⟨fun hidle => ?_, fun x hx hc => ?_⟩
  · have hid : (s.checked eligible s.edge.outbox s.edge.shift).tryCapture = s.checked eligible s.edge.outbox s.edge.shift :=
      tryCapture_idle hidle
    rw [hrow, hid]
    exact checked_twice s eligible _ _ _
  obtain ⟨none', own, other⟩ := tryCapture_capture (s := s.checked eligible s.edge.outbox s.edge.shift) (x := x) hx hc
  refine ⟨fun ht => ?_, fun ht => ?_, fun n hn ht => ⟨fun hroom => ?_, fun hfull => ?_⟩⟩
  · rw [hrow, none' ht]
    exact checked_twice s eligible s.edge.outbox _ _
  · rw [hrow, own ht]
    exact checked_twice s eligible s.edge.outbox _ _
  · rw [hrow, other n hn ht, if_pos (c := (s.checked eligible s.edge.outbox s.edge.shift).edge.outbox.length < 2) hroom]
    exact checked_append s eligible s.edge.outbox _ s.edge.shift _
  · rw [hrow, other n hn ht,
      if_neg (c := (s.checked eligible s.edge.outbox s.edge.shift).edge.outbox.length < 2) (Nat.not_lt.mpr hfull), ← hx]
    exact checked_twice s eligible s.edge.outbox _ _

/-! ### The timers -/

theorem recheckOutbox_away {t : State} (h : s.outboxSettled) (hs : s.members.station ≠ .member) (he : t.edge = s.edge) :
    t.recheckOutbox = t := by
  have key (u : State) (hu : u.edge = s.edge) : State.nothingWaits { u with barrier := { u.barrier with pending := none } } :=
    nothingWaits_away (s := { s with barrier := { s.barrier with pending := none } }) ⟨rfl, h⟩ hs rfl hu
  exact recheckOutbox_settled (key t he).2

theorem endEdgeWait_of {x : Shift} (hx : s.edge.shift = some x) : s.endEdgeWait =
    if x.step = .await then { s with
      edge := { s.edge with shift := some { x with step := .fill, strip := none }, timer := none }
      raster := { s.raster with engine := .applying, issued := 0 }
      events := { s.events with flags := s.events.flags ||| Event.edgeTimeout.bit } } else s := by
  unfold State.endEdgeWait
  rw [hx]
  rfl

/-- Settles O52. -/
theorem timersEnd : Obligations.TimersEnd := by
  intro s hh
  have hrun (f : State → State) : whenRunning s f = f s := by simp [whenRunning, hh]
  refine ⟨fun a hst ht hset => ?_, fun a hst ht => ?_, fun n a hr ht => ?_, fun x a ht hx hst => ?_⟩
  · refine congrArg _ ((hrun _).trans ((if_pos ⟨hst, by rw [ht]; rfl⟩).trans ?_))
    exact recheckOutbox_away hset (by simp [hst]) rfl
  · refine congrArg _ ((hrun _).trans ((if_pos ⟨hst, by rw [ht]; rfl⟩).trans ?_))
    rw [State.setStation, ← hst]
  · refine congrArg _ ((hrun _).trans ((if_pos ⟨hr, by rw [ht]; rfl⟩).trans ?_))
    rw [removePeer_eq, hr]
    rfl
  · refine congrArg _ ((hrun _).trans ((if_pos (by rw [ht]; rfl)).trans ?_))
    rw [endEdgeWait_of hx, if_pos hst]

/-! ### The commit -/

theorem complete_eq {r : InRecord} {rest : List InRecord} (h : s.stream.inbound = r :: rest) : s.complete = s.completed r rest := by
  have hpurge : purgeInbox s.edge.inbox r.originator r.seq =
      s.edge.inbox.filter fun e => decide (e.originator ≠ r.originator ∨ seqAfter e.seq r.seq = true) := by
    unfold purgeInbox
    congr 1
    funext e
    rw [Bool.decide_or, Bool.decide_eq_true]
  unfold State.complete
  rw [h]
  dsimp only
  unfold State.completed State.leaveIfDrained
  rw [← hpurge]
  by_cases hd : s.members.station = .outOfStep ∧ rest = []
  · rw [if_pos hd]
    exact if_pos hd
  · rw [if_neg hd]
    exact if_neg hd

theorem headCopies_of {r : InRecord} {rest : List InRecord} {copy : Bool} (h : s.stream.inbound = r :: rest)
    (hp : parseOp s.straps r.bytes = some (.present copy)) : s.headCopies = copy := by
  unfold State.headCopies
  rw [h]
  dsimp only
  rw [hp]

/-- The commit of a PRESENT at the head of the queue, by its mode (R123, R124). -/
theorem commitFor_of {r : InRecord} {rest : List InRecord} {copy : Bool} (t : Epoch) (h : s.stream.inbound = r :: rest)
    (hp : parseOp s.straps r.bytes = some (.present copy)) :
    s.commitFor t = if copy then { s.exchanged t with raster := { s.raster with engine := .copying, issued := 0 } }
      else (s.exchanged t).completed r rest := by
  have hcomplete : (s.exchanged t).complete = (s.exchanged t).completed r rest := complete_eq h
  rw [commitFor_eq, headCopies_of h hp, hcomplete]
  rfl

theorem lateFor_eq (s : State) (t : Epoch) : s.lateFor t = stations.filter fun n => s.inRoster n && !(match (s.peer n).voted with
    | some v => epochAtOrAfter v t
    | none => false) := by
  unfold State.lateFor State.roster
  rw [List.filter_filter]
  congr 1
  funext n
  rw [Bool.and_comm]
  unfold votedFor
  cases (s.peer n).voted <;> rfl

/-- Settles O53. -/
theorem barrierTimeoutCommits : Obligations.BarrierTimeoutCommits := by
  intro s t a r rest copy hh hb ht hin hp b u hbar hu
  have hrow : exec .barrierTimeout s = .next
      (State.commitNow ({ s with barrier := { s.barrier with late := s.lateFor t } }.raise .barrierLate)) := by
    simp only [exec, execBarrierTimeout, whenRunning, hh, hb, ht, Bool.false_eq_true, if_false]
  have hex : State.exchanged ({ s with barrier := { s.barrier with late := s.lateFor t } }.raise .barrierLate) t = u := by
    rw [hu, hbar, lateFor_eq]
    rfl
  have hnow : State.commitNow ({ s with barrier := { s.barrier with late := s.lateFor t } }.raise .barrierLate) =
      (State.commitFor ({ s with barrier := { s.barrier with late := s.lateFor t } }.raise .barrierLate) t).settle := by
    unfold State.commitNow
    simp only [State.raise, hb]
  have hfor := commitFor_of (s := { s with barrier := { s.barrier with late := s.lateFor t } }.raise .barrierLate) t hin hp
  rw [hex] at hfor
  rw [hrow, hnow, hfor]
  refine ⟨fun hc => ?_, fun hc => ?_⟩
  · rw [if_pos hc, settle_busy (by simp), hu]
    rfl
  · rw [if_neg (by simp [hc])]

end Sys2Proof.Machine
end

section
/-! PROOFS. The station leaves MEMBER: what waited for it to stay ends, and nothing waits any more (R35). -/

namespace Sys2Proof.Machine

variable {s : State}

/-! ### What the engine's work keeps of what waits -/

/-- A PRESENT that the engine holds is at the head of the queue, and its barrier is pending (R30). -/
def State.presentHeld (s : State) : Prop :=
  s.raster.engine = .awaitBarrier → s.barrier.pending ≠ none ∧ s.stream.inbound ≠ []

/-- A strip stands in the outbox, or one has been lost (R57). -/
def State.stripTold (s : State) : Prop := s.edge.outbox ≠ [] ∨ s.flagSet .edgeLost = true

/-- What an operation of the engine, the barrier and the Edge Unit keeps of what waits. -/
structure Waits (s t : State) : Prop where
  present : s.presentHeld → t.presentHeld
  strips : s.stripTold → t.stripTold

theorem Waits.refl (s : State) : Waits s s := ⟨id, id⟩

theorem Waits.trans {s t u : State} (h : Waits s t) (k : Waits t u) : Waits s u := ⟨k.present ∘ h.present, k.strips ∘ h.strips⟩

/-- The engine, the barrier and the queue stand; the outbox holds a record still, or one is lost. -/
theorem waits_same {t : State} (he : t.raster.engine = s.raster.engine) (hb : t.barrier.pending = s.barrier.pending)
    (hi : t.stream.inbound = s.stream.inbound) (hs : s.stripTold → t.stripTold) : Waits s t :=
  ⟨fun h k => by rw [hb, hi]; exact h (he ▸ k), hs⟩

/-- The engine does not hold a PRESENT after it, and the outbox stands. -/
theorem waits_busy {t : State} (he : t.raster.engine ≠ .awaitBarrier) (ho : t.edge.outbox = s.edge.outbox)
    (hf : s.flagSet .edgeLost = true → t.flagSet .edgeLost = true) : Waits s t :=
  ⟨fun _ k => absurd k he, Or.imp (ho ▸ ·) hf⟩

theorem waits_discardIneligible (s : State) : Waits s s.discardIneligible := by
  have hk := keeps_discardIneligible s
  refine waits_same ?_ ?_ ?_ fun h => ?_
  · rw [discardIneligible_frame]
  · rw [discardIneligible_frame]
  · rw [discardIneligible_frame]
  rcases h with h | h
  · rw [discardIneligible_eq (eligible := fun r => s.edgeEligible r || s.sendingEdge) fun r => by simp]
    cases ho : s.edge.outbox with
    | nil => exact absurd ho h
    | cons r rest =>
      by_cases he : s.edgeEligible r = false ∧ s.sendingEdge = false
      · exact .inr (by simp [State.checked, State.flagSet, he, Event.bit_getLsbD])
      · exact .inl (by simp [State.checked, he])
  · exact .inr (hk.flags _ h)

theorem waits_tryCapture (s : State) : Waits s s.tryCapture := by
  refine waits_same ?_ ?_ ?_ (Or.imp (fun h => ?_) fun h => (keeps_tryCapture s).flags _ h)
  · rw [tryCapture_frame]
  · rw [tryCapture_frame]
  · rw [tryCapture_frame]
  · rcases tryCapture_outbox s with e | ⟨r, e⟩ <;> rw [e]
    · exact h
    · simp

theorem waits_recheckOutbox (s : State) : Waits s s.recheckOutbox :=
  ((waits_discardIneligible s).trans (waits_tryCapture _)).trans (waits_discardIneligible _)

theorem waits_endEdgeWait (s : State) : Waits s s.endEdgeWait := by
  cases hx : s.edge.shift with
  | none =>
    have : s.endEdgeWait = s := by simp [State.endEdgeWait, hx]
    rw [this]
    exact Waits.refl s
  | some x =>
    rw [endEdgeWait_of hx]
    split
    · exact waits_busy (by simp) rfl fun h => flagSet_of_raise (s := s) h
    · exact Waits.refl s

theorem waits_complete (s : State) : Waits s s.complete := by
  cases hi : s.stream.inbound with
  | nil =>
    have : s.complete = s := by simp [State.complete, hi]
    rw [this]
    exact Waits.refl s
  | cons r rest =>
    rw [complete_eq hi]
    exact waits_busy (by simp [State.completed]) rfl id

theorem waits_exchanged (s : State) (t : Epoch) {u : State} (hu : u.raster.engine ≠ .awaitBarrier) (ho : u.edge.outbox = s.edge.outbox)
    (he : u.events = (s.exchanged t).events) : Waits s u := by
  refine waits_busy hu ho fun h => ?_
  rw [flagSet_congr he]
  exact flagSet_of_raise (flagSet_of_raise (s := s) h)

theorem waits_commitFor (s : State) (t : Epoch) : Waits s (s.commitFor t) := by
  rw [commitFor_eq]
  split
  · exact waits_exchanged s t (by simp) rfl rfl
  · cases hi : s.stream.inbound with
    | nil =>
      have : (s.exchanged t).complete = s.exchanged t := by
        have hi' : (s.exchanged t).stream.inbound = [] := hi
        simp [State.complete, hi']
      rw [this]
      exact ⟨fun h k => absurd hi (h k).2, Or.imp_right fun h => flagSet_of_raise (flagSet_of_raise (s := s) h)⟩
    | cons r rest =>
      rw [complete_eq (s := s.exchanged t) hi]
      exact waits_exchanged s t (by simp [State.completed]) rfl rfl

theorem waits_beginShift (s : State) (r : InRecord) (d : Direction) (k : Nat) (rotate : Bool) : Waits s (s.beginShift r d k rotate) := by
  have hbegin : Waits s ((s.setShift (some { originator := r.originator, seq := r.seq, direction := d, k := k, rotate := rotate
                                             step := .capture, strip := none })).setEngine .applying 0) :=
    waits_busy (by simp) rfl id
  unfold State.beginShift
  dsimp only
  split
  · exact (hbegin.trans (waits_tryCapture _)).trans (waits_discardIneligible _)
  · exact hbegin.trans (waits_tryCapture _)

theorem waits_beginPresent (s : State) (t : Epoch) (hi : s.stream.inbound ≠ []) : Waits s (s.beginPresent t) := by
  unfold State.beginPresent
  dsimp only
  split
  · exact ⟨fun _ _ => ⟨by simp, hi⟩, id⟩
  · refine Waits.trans ?_ (waits_commitFor _ t)
    exact ⟨fun _ _ => ⟨by simp, hi⟩, id⟩

theorem waits_take (s : State) (r : InRecord) (hi : s.stream.inbound ≠ []) : Waits s (s.take r) := by
  have hd : Waits s { s with raster := { s.raster with digest := foldRecord s.raster.digest r } } := waits_same rfl rfl rfl id
  unfold State.take
  dsimp only
  split
  · exact hd.trans (waits_complete _)
  · split
    · exact hd.trans (waits_complete _)
    · exact hd.trans (waits_beginShift _ _ _ _ _)
    · exact hd.trans (waits_beginPresent _ _ hi)
    · split
      · exact hd.trans (waits_complete _)
      · exact hd.trans (waits_busy (by simp) rfl id)

theorem waits_settle (s : State) : Waits s s.settle := by
  have key (fuel : Nat) : ∀ s, Waits s (State.settleFor fuel s) := by
    induction fuel with
    | zero => exact Waits.refl
    | succ n ih =>
      intro s
      unfold State.settleFor
      split
      · split
        · exact Waits.refl s
        · rename_i r rest hr
          exact (waits_take s r (by simp [hr])).trans (ih _)
      · exact Waits.refl s
  exact key _ s

theorem waits_commitNow (s : State) : Waits s s.commitNow := by
  unfold State.commitNow
  split
  · exact (waits_commitFor s _).trans (waits_settle _)
  · exact Waits.refl s

theorem waits_evaluateCommit (s : State) : Waits s s.evaluateCommit := by
  unfold State.evaluateCommit
  split
  · split
    · exact waits_commitNow s
    · exact Waits.refl s
  · exact Waits.refl s

theorem waits_rosterChanged (s : State) : Waits s s.rosterChanged := (waits_recheckOutbox s).trans (waits_evaluateCommit _)

theorem waits_abandonWaits (s : State) : Waits s s.abandonWaits :=
  ((waits_recheckOutbox s).trans (waits_endEdgeWait _)).trans (waits_commitNow _)

/-! ### Nothing waits away from MEMBER -/

/-- The station is away from MEMBER with an empty outbox, and no SHIFT waits for a place or a strip (R35). -/
structure State.Gone (s : State) : Prop where
  away : s.members.station ≠ .member
  quiet : s.sendingEdge = false
  empty : s.edge.outbox = []
  moving : ∀ x, s.edge.shift = some x → x.step ≠ .await ∧ x.step ≠ .capture

theorem State.Gone.congr {t : State} (h : s.Gone) (hm : t.members.station = s.members.station) (hb : t.bus = s.bus)
    (ho : t.edge.outbox = s.edge.outbox) (hx : t.edge.shift = s.edge.shift ∨ t.edge.shift = none) : t.Gone where
  away := hm ▸ h.away
  quiet := by unfold State.sendingEdge; rw [hb]; exact h.quiet
  empty := ho.trans h.empty
  moving x hs := by
    rcases hx with e | e
    · exact h.moving x (e ▸ hs)
    · rw [e] at hs; cases hs

theorem not_eligible (h : s.members.station ≠ .member) (hq : s.sendingEdge = false) (r : OutboxRecord) :
    false = true ↔ s.edgeEligible r = true ∨ s.sendingEdge = true := by
  simp [State.edgeEligible, isMember_of_ne h, hq]

/-- Away from MEMBER the outbox check empties the outbox. -/
theorem discardIneligible_away (h : s.members.station ≠ .member) (hq : s.sendingEdge = false) :
    s.discardIneligible = { s with
      edge := { s.edge with outbox := [] }
      events := { s.events with flags :=
        if s.edge.outbox ≠ [] then s.events.flags ||| Event.edgeLost.bit else s.events.flags } } := by
  rw [discardIneligible_eq (not_eligible h hq), State.checked]
  cases s.edge.outbox with
  | nil => rfl
  | cons r rest =>
    have hdrop (l : List OutboxRecord) : l.dropWhile (fun _ => !false) = [] := by
      induction l with
      | nil => rfl
      | cons a l ih => exact ih
    rw [hdrop]
    rfl

/-- With an empty outbox a capture is made at once (R136). -/
theorem tryCapture_empty (ho : s.edge.outbox = []) {x : Shift} (hx : s.edge.shift = some x) (hc : x.step = .capture) :
    ∃ l, s.tryCapture = { s with edge := { s.edge with
      outbox := l
      shift := some { x with
        step := .move
        strip := if s.straps.target x.direction x.rotate = some s.straps.n.val then some (captureStrip x.direction x.k s.drawPlane)
          else x.strip } } } ∧
      (l ≠ [] ↔ ∃ n, s.straps.target x.direction x.rotate = some n ∧ n ≠ s.straps.n.val) := by
  cases ht : s.straps.target x.direction x.rotate with
  | none =>
    refine ⟨s.edge.outbox, ?_, by simp [ho]⟩
    simp only [State.tryCapture, hx, hc, if_true, ht]
    rw [if_neg (by simp)]
    rfl
  | some n =>
    by_cases hn : n = s.straps.n.val
    · refine ⟨s.edge.outbox, ?_, by simp [ho, hn]⟩
      simp only [State.tryCapture, hx, hc, if_true, ht, hn]
      rfl
    · refine ⟨[{ originator := x.originator, seq := x.seq, direction := x.direction, k := x.k, target := Fin.ofNat 16 n
                 data := captureStrip x.direction x.k s.drawPlane }], ?_, by simp [hn]⟩
      simp only [State.tryCapture, hx, hc, if_true, ht, hn, if_false, ho]
      rw [if_pos (show ([] : List OutboxRecord).length < Config.outboxPlaces by decide),
        if_neg (show ¬ (some n = some s.straps.n.val) by simpa using hn)]
      rfl

theorem State.Gone.complete (h : s.Gone) : s.complete.Gone := by
  cases hi : s.stream.inbound with
  | nil =>
    have : s.complete = s := by simp [State.complete, hi]
    rw [this]
    exact h
  | cons r rest =>
    rw [complete_eq hi]
    exact h.congr ((apply_ite Members.station _ _ _).trans (ite_self _)) rfl rfl (.inr rfl)

theorem State.Gone.commitFor (h : s.Gone) (t : Epoch) : (s.commitFor t).Gone := by
  have hex : (s.exchanged t).Gone := h.congr rfl rfl rfl (.inl rfl)
  rw [commitFor_eq]
  split
  · exact hex.congr rfl rfl rfl (.inl rfl)
  · exact hex.complete

theorem complete_barrier (s : State) : s.complete.barrier = s.barrier := by
  cases hi : s.stream.inbound with
  | nil => simp [State.complete, hi]
  | cons r rest => rw [complete_eq hi]; rfl

theorem commitFor_pending (s : State) (t : Epoch) : (s.commitFor t).barrier.pending = none := by
  rw [commitFor_eq]
  split
  · rfl
  · rw [complete_barrier]; rfl

theorem State.Gone.beginShift (h : s.Gone) (r : InRecord) (d : Direction) (k : Nat) (rotate : Bool) :
    (s.beginShift r d k rotate).Gone ∧ (s.beginShift r d k rotate).barrier = s.barrier := by
  obtain ⟨u, hu⟩ : ∃ u, u = (s.setShift (some { originator := r.originator, seq := r.seq, direction := d, k := k
                                                rotate := rotate, step := .capture, strip := none })).setEngine .applying 0 := ⟨_, rfl⟩
  have hgone : u.members = s.members ∧ u.bus = s.bus ∧ u.edge.outbox = [] ∧ u.barrier = s.barrier := hu ▸ ⟨rfl, rfl, h.empty, rfl⟩
  obtain ⟨hm, hb, ho, hbar⟩ := hgone
  obtain ⟨l, he, -⟩ := tryCapture_empty ho (by rw [hu]; rfl) rfl
  unfold State.beginShift
  dsimp only
  rw [if_pos h.empty, ← hu, he, discardIneligible_away (by rw [hm]; exact h.away) (by unfold State.sendingEdge; rw [hb]; exact h.quiet)]
  refine ⟨⟨?_, ?_, rfl, fun x hx => ?_⟩, hbar⟩
  · rw [hm]; exact h.away
  · unfold State.sendingEdge; rw [hb]; exact h.quiet
  · obtain rfl := Option.some.inj hx
    simp

theorem State.Gone.beginPresent (h : s.Gone) (t : Epoch) : (s.beginPresent t).Gone ∧ (s.beginPresent t).barrier.pending = none := by
  obtain ⟨u, hu⟩ : ∃ u, u = (s.recordDigest t).setEngine .awaitBarrier 0 := ⟨_, rfl⟩
  have hm : u.members = s.members ∧ u.bus = s.bus ∧ u.edge = s.edge := hu ▸ ⟨rfl, rfl, rfl⟩
  obtain ⟨hmem, hbus, hedge⟩ := hm
  have hrow : s.beginPresent t = { u with barrier := { u.barrier with pending := some t } }.commitFor t := by
    unfold State.beginPresent
    rw [← hu]
    exact if_neg (ne_true_of_eq_false (isMember_of_ne (hmem ▸ h.away)))
  have hgone : State.Gone { u with barrier := { u.barrier with pending := some t } } :=
    h.congr (congrArg Members.station hmem) hbus (congrArg Edge.outbox hedge) (.inl (congrArg Edge.shift hedge))
  rw [hrow]
  exact ⟨hgone.commitFor t, commitFor_pending _ t⟩

/-- A take away from MEMBER leaves nothing that waits (R114, R121). -/
theorem State.Gone.take (h : s.Gone) (hp : s.barrier.pending = none) (r : InRecord) :
    (s.take r).Gone ∧ (s.take r).barrier.pending = none := by
  have hd : State.Gone { s with raster := { s.raster with digest := foldRecord s.raster.digest r } } := h.congr rfl rfl rfl (.inl rfl)
  have hdone := And.intro hd.complete ((congrArg Barrier.pending (complete_barrier
    { s with raster := { s.raster with digest := foldRecord s.raster.digest r } })).trans hp)
  unfold State.take
  dsimp only
  split
  · exact hdone
  · split
    · exact hdone
    · exact ⟨(hd.beginShift r _ _ _).1, (congrArg Barrier.pending (hd.beginShift r _ _ _).2).trans hp⟩
    · exact hd.beginPresent _
    · split
      · exact hdone
      · exact ⟨hd.congr rfl rfl rfl (.inl rfl), hp⟩

theorem State.Gone.settle (h : s.Gone) (hp : s.barrier.pending = none) : s.settle.Gone ∧ s.settle.barrier.pending = none := by
  have key (fuel : Nat) : ∀ s : State, s.Gone → s.barrier.pending = none →
      (State.settleFor fuel s).Gone ∧ (State.settleFor fuel s).barrier.pending = none := by
    induction fuel with
    | zero => exact fun s h hp => ⟨h, hp⟩
    | succ n ih =>
      intro s h hp
      unfold State.settleFor
      split
      · split
        · exact ⟨h, hp⟩
        · obtain ⟨h', hp'⟩ := h.take hp _
          exact ih _ h' hp'
      · exact ⟨h, hp⟩
  exact key _ s h hp

theorem State.Gone.commitNow (h : s.Gone) : s.commitNow.Gone ∧ s.commitNow.barrier.pending = none := by
  unfold State.commitNow
  split
  · exact (h.commitFor _).settle (commitFor_pending s _)
  · exact ⟨h, ‹_›⟩

/-! ### All that the instant does -/

/-- Away from MEMBER the check empties the outbox, and a capture that waited for a place is made (R57, R136). -/
theorem recheckOutbox_leaves (h : s.members.station ≠ .member) (hq : s.sendingEdge = false) {moved : Option Shift} {lost : Bool}
    (hidle : (∀ x, s.edge.shift = some x → x.step ≠ .capture) → moved = s.edge.shift)
    (hcap : ∀ x, s.edge.shift = some x → x.step = .capture → moved = some { x with
      step := .move
      strip := if s.straps.target x.direction x.rotate = some s.straps.n.val then some (captureStrip x.direction x.k s.drawPlane)
        else x.strip })
    (hlost : lost = true ↔ s.edge.outbox ≠ [] ∨ ∃ x n, s.edge.shift = some x ∧ x.step = .capture ∧
      s.straps.target x.direction x.rotate = some n ∧ n ≠ s.straps.n.val) :
    s.recheckOutbox = { s with
      edge := { s.edge with outbox := [], shift := moved }
      events := { s.events with flags := (if lost = true then s.events.flags ||| Event.edgeLost.bit else s.events.flags) } } := by
  obtain ⟨u, hu⟩ : ∃ u, u = s.discardIneligible := ⟨_, rfl⟩
  have hdis := discardIneligible_away h hq
  unfold State.recheckOutbox
  rw [← hu]
  rw [← hu] at hdis
  have hshift : u.edge.shift = s.edge.shift := by rw [hdis]
  by_cases hc : ∀ x, s.edge.shift = some x → x.step ≠ .capture
  · have hl : lost = true ↔ s.edge.outbox ≠ [] := by
      rw [hlost]
      refine or_iff_left ?_
      rintro ⟨x, n, hx, hstep, -⟩
      exact hc x hx hstep
    rw [tryCapture_idle (hshift ▸ hc), discardIneligible_settled (by rw [hdis]; exact fun _ _ k => absurd k (by simp)), hdis, hidle hc]
    simp only [hl]
  · push Not at hc
    obtain ⟨x, hx, hstep⟩ := hc
    obtain ⟨l, he, hne⟩ := tryCapture_empty (s := u) (by rw [hdis]) (hshift.trans hx) hstep
    have hl : lost = true ↔ s.edge.outbox ≠ [] ∨ l ≠ [] := by
      rw [hlost, hne, hdis]
      refine or_congr_right ⟨?_, fun ⟨n, hn⟩ => ⟨x, n, hx, hstep, hn⟩⟩
      rintro ⟨y, n, hy, -, hn⟩
      obtain rfl := Option.some.inj (hx.symm.trans hy)
      exact ⟨n, hn⟩
    rw [he, discardIneligible_away (by rw [hdis]; exact h) (by rw [hdis]; exact hq), hdis, hcap x hx hstep]
    dsimp only
    have hflags : (if l ≠ [] then (if s.edge.outbox ≠ [] then s.events.flags ||| Event.edgeLost.bit else s.events.flags) |||
        Event.edgeLost.bit else if s.edge.outbox ≠ [] then s.events.flags ||| Event.edgeLost.bit else s.events.flags) =
        if lost = true then s.events.flags ||| Event.edgeLost.bit else s.events.flags := by
      by_cases h1 : l = [] <;> by_cases h2 : s.edge.outbox = [] <;> simp [hl, h1, h2, BitVec.or_assoc]
    rw [hflags]
    rfl

/-- The shift of a station that has left MEMBER: a capture that waited is made (R136). -/
def State.movedShift (s : State) : Option Shift :=
  s.edge.shift.map fun x => if x.step = .capture then { x with
    step := .move
    strip := if s.straps.target x.direction x.rotate = some s.straps.n.val then some (captureStrip x.direction x.k s.drawPlane)
      else x.strip } else x

theorem movedShift_idle (h : ∀ x, s.edge.shift = some x → x.step ≠ .capture) : s.movedShift = s.edge.shift := by
  unfold State.movedShift
  cases hx : s.edge.shift with
  | none => rfl
  | some x => simp [h x hx]

theorem movedShift_capture {x : Shift} (hx : s.edge.shift = some x) (hc : x.step = .capture) : s.movedShift = some { x with
    step := .move
    strip := if s.straps.target x.direction x.rotate = some s.straps.n.val then some (captureStrip x.direction x.k s.drawPlane)
      else x.strip } := by
  simp [State.movedShift, hx, hc]

/-- Whether a strip is lost when the station leaves MEMBER: a queued one, or that of a capture that waited (R57, R145). -/
def State.strandsStrip (s : State) : Prop :=
  s.edge.outbox ≠ [] ∨ ∃ x n, s.edge.shift = some x ∧ x.step = .capture ∧
    s.straps.target x.direction x.rotate = some n ∧ n ≠ s.straps.n.val

theorem movedShift_step {x : Shift} (h : s.movedShift = some x) : x.step ≠ .capture := by
  unfold State.movedShift at h
  rw [Option.map_eq_some_iff] at h
  obtain ⟨y, -, rfl⟩ := h
  split <;> simp_all

/-- The state between the check of the outbox and the end of the other waits. -/
theorem recheckOutbox_moved (h : s.members.station ≠ .member) (hq : s.sendingEdge = false) [Decidable s.strandsStrip] :
    s.recheckOutbox = { s with
      edge := { s.edge with outbox := [], shift := s.movedShift }
      events := { s.events with flags := (if s.strandsStrip then s.events.flags ||| Event.edgeLost.bit else s.events.flags) } } := by
  have := recheckOutbox_leaves h hq (lost := decide s.strandsStrip) movedShift_idle (fun _ => movedShift_capture) decide_eq_true_iff
  simpa only [decide_eq_true_eq] using this

theorem endEdgeWait_idle (h : ∀ x, s.edge.shift = some x → x.step ≠ .await) : s.endEdgeWait = s := by
  cases hx : s.edge.shift with
  | none => simp [State.endEdgeWait, hx]
  | some x => rw [endEdgeWait_of hx, if_neg (h x hx)]

/-- All that R35 says of the instant at which the station leaves MEMBER. -/
theorem endsWaits_abandonWaits (h : s.members.station ≠ .member) (hq : s.sendingEdge = false) : s.endsWaits s.abandonWaits := by
  intro moved lost o hidle hcap hlost ho
  have hrow : s.recheckOutbox = o := (recheckOutbox_leaves h hq hidle hcap hlost).trans ho.symm
  have hshift : o.edge.shift = moved := by rw [ho]
  have hpend : o.barrier = s.barrier := by rw [ho]
  unfold State.abandonWaits
  rw [hrow]
  refine ⟨fun hp hw => ?_, fun hp x hx hw => ?_, fun b r rest copy hb hw hin hop c v hc hv => ?_⟩
  · rw [endEdgeWait_idle (hshift ▸ hw)]
    simp [State.commitNow, hpend, hp]
  · rw [endEdgeWait_of (hshift.trans hx), if_pos hw]
    simp [State.commitNow, hpend, hp]
  · have hex : o.exchanged b = v := by
      have hcb : c = { o.barrier with shown := o.barrier.shown.other, committed := b, timer := none, pending := none } := by
        rw [hpend, hc]
      rw [hv, hcb]
      rfl
    have hfor := commitFor_of (s := o) b (by rw [ho]; exact hin) (by rw [ho]; exact hop)
    rw [hex] at hfor
    have hnow : o.commitNow = (o.commitFor b).settle := by
      unfold State.commitNow
      rw [hpend, hb]
    rw [endEdgeWait_idle (hshift ▸ hw), hnow, hfor]
    refine ⟨fun k => ?_, fun k => ?_⟩
    · rw [if_pos k, settle_busy (by simp), hv]
    · rw [if_neg (by simp [k])]

theorem gone_abandonWaits (h : s.members.station ≠ .member) (hq : s.sendingEdge = false) :
    s.abandonWaits.Gone ∧ s.abandonWaits.barrier.pending = none := by
  classical
  have hrow := recheckOutbox_moved h hq
  refine State.Gone.commitNow (s := s.recheckOutbox.endEdgeWait) ?_
  rw [hrow]
  cases hx : s.movedShift with
  | none =>
    rw [endEdgeWait_idle (by simp)]
    exact ⟨h, hq, rfl, by simp⟩
  | some x =>
    rw [endEdgeWait_of (x := x) rfl]
    split
    · refine ⟨h, hq, rfl, fun y hy => ?_⟩
      obtain rfl := Option.some.inj hy
      simp
    · refine ⟨h, hq, rfl, fun y hy => ?_⟩
      obtain rfl := Option.some.inj hy
      exact ⟨‹_›, movedShift_step hx⟩

/-! ### What is over -/

theorem commitNow_none (h : s.barrier.pending = none) : s.commitNow = s := by simp [State.commitNow, h]

/-- What the commit of a PRESENT at the head of the queue and the engine's next takes come to (R121, R123). -/
theorem commitFor_settle_over {b : Epoch} {r : InRecord} {rest : List InRecord} {copy : Bool} (hin : s.stream.inbound = r :: rest)
    (hop : parseOp s.straps r.bytes = some (.present copy)) {e : State} (he : e = (s.commitFor b).settle) :
    e.flagSet .commit = true ∧ e.flagSet .frame = true ∧
      (copy = true ∨ rest = [] → e.barrier =
        { s.barrier with shown := s.barrier.shown.other, committed := b, timer := none, pending := none }) ∧
      (copy = true → e.raster = { s.raster with engine := .copying, issued := 0 } ∧ e.stream.inbound = r :: rest ∧
        e.edge.shift = s.edge.shift) ∧
      (copy = false → e.stream.inbound <:+ rest ∧ (rest = [] → e.raster.engine = .idle ∧ e.edge.shift = none)) := by
  have hcommit : (s.exchanged b).flagSet .commit = true := flagSet_exchanged_commit s b
  have hframe : (s.exchanged b).flagSet .frame = true := by simp [State.exchanged, State.startFrame]
  rw [commitFor_of b hin hop] at he
  cases copy with
  | true =>
    rw [if_pos rfl, settle_busy (by simp)] at he
    rw [he]
    exact ⟨hcommit, hframe, fun _ => rfl, fun _ => ⟨rfl, hin, rfl⟩, fun h => by simp at h⟩
  | false =>
    rw [if_neg (by simp)] at he
    have hw := works_settle ((s.exchanged b).completed r rest)
    rw [← he] at hw
    have hflag (a : Event) (ha : (s.exchanged b).flagSet a = true) : e.flagSet a = true := hw.keeps.flags _ ha
    refine ⟨hflag _ hcommit, hflag _ hframe, fun hrest => ?_, fun h => (by simp at h), fun _ => ⟨hw.inbound, fun hrest => ?_⟩⟩
    · rw [he, settle_empty (hrest.resolve_left (by simp))]
      rfl
    · rw [he, settle_empty hrest]
      exact ⟨rfl, rfl⟩

/-- A state that a commit has led to, where nothing else has waited, and whose engine holds no PRESENT, has the barrier over. -/
theorem barrierOver {o t e : State} {b : Epoch} {r : InRecord} {rest : List InRecord} {copy : Bool} (hr : o.raster = s.raster)
    (hs : o.barrier.shown = s.barrier.shown) (hin : o.stream.inbound = r :: rest)
    (hop : parseOp o.straps r.bytes = some (.present copy)) (he : e = (o.commitFor b).settle)
    (hflags : ∀ a, e.flagSet a = true → t.flagSet a = true) (hinb : t.stream.inbound <:+ e.stream.inbound)
    (hfree : t.raster.engine ≠ .awaitBarrier)
    (hsame : copy = true ∨ rest = [] → t.barrier = e.barrier ∧ t.raster = e.raster ∧ t.stream.inbound = e.stream.inbound) :
    t.flagSet .commit = true ∧ t.flagSet .frame = true ∧ t.raster.engine ≠ .awaitBarrier ∧
      (copy = true ∨ rest = [] →
        t.barrier.committed = b ∧ t.barrier.shown = s.barrier.shown.other ∧ t.barrier.timer = none) ∧
      (copy = true → t.raster = { s.raster with engine := .copying, issued := 0 } ∧ t.stream.inbound = r :: rest) ∧
      (copy = false → t.stream.inbound <:+ rest ∧ (rest = [] → t.raster.engine = .idle)) := by
  obtain ⟨hcommit, hframe, hbar, hcopy, hswap⟩ := commitFor_settle_over hin hop he
  refine ⟨hflags _ hcommit, hflags _ hframe, hfree, fun h => ?_, fun h => ?_, fun h => ⟨hinb.trans (hswap h).1, fun h' => ?_⟩⟩
  · rw [(hsame h).1, hbar h, ← hs]
    exact ⟨rfl, rfl, rfl⟩
  · rw [(hsame (.inl h)).2.1, (hsame (.inl h)).2.2, (hcopy h).1, (hcopy h).2.1, hr]
    exact ⟨rfl, rfl⟩
  · rw [(hsame (.inr h')).2.1]
    exact ((hswap h).2 h').1

/-- The wait for a strip is over where no barrier was pending (R139). -/
theorem abandonWaits_await (h : s.members.station ≠ .member) (hq : s.sendingEdge = false) (hp : s.barrier.pending = none)
    {x : Shift} (hx : s.edge.shift = some x) (hw : x.step = .await) :
    s.abandonWaits.flagSet .edgeTimeout = true ∧ s.abandonWaits.edge.shift = some { x with step := .fill, strip := none } ∧
      s.abandonWaits.edge.timer = none ∧ s.abandonWaits.raster = { s.raster with engine := .applying, issued := 0 } := by
  classical
  have hmoved : s.movedShift = some x := by
    rw [movedShift_idle fun y hy => ?_, hx]
    obtain rfl := Option.some.inj (hx.symm.trans hy)
    simp [hw]
  unfold State.abandonWaits
  rw [recheckOutbox_moved h hq, hmoved, endEdgeWait_of (x := x) rfl, if_pos hw]
  rw [commitNow_none]
  · exact ⟨by simp [State.flagSet, Event.bit_getLsbD], rfl, rfl, rfl⟩
  · exact hp

/-- Without a SHIFT in progress, the barrier alone ends. -/
theorem abandonWaits_noShift (h : s.members.station ≠ .member) (hq : s.sendingEdge = false) (hx : s.edge.shift = none) :
    ∃ o : State, o.raster = s.raster ∧ o.barrier = s.barrier ∧ o.stream = s.stream ∧ o.straps = s.straps ∧
      s.abandonWaits = o.commitNow := by
  classical
  refine ⟨s.recheckOutbox, ?_, ?_, ?_, ?_, ?_⟩
  · rw [recheckOutbox_frame]
  · rw [recheckOutbox_frame]
  · rw [recheckOutbox_frame]
  · rw [recheckOutbox_frame]
  · unfold State.abandonWaits
    rw [endEdgeWait_idle]
    rw [recheckOutbox_moved h hq]
    simp [State.movedShift, hx]

/-- What waited in a state of the station as it was before is over after the instant at which it left MEMBER. -/
theorem waitsOver_abandonWaits {u t : State} (h : u.members.station ≠ .member) (hq : u.sendingEdge = false)
    (hshift : u.edge.shift = s.edge.shift) (hpend : u.barrier.pending = s.barrier.pending) (hshown : u.barrier.shown = s.barrier.shown)
    (hraster : u.raster = s.raster) (hin : u.stream.inbound = s.stream.inbound) (hstraps : u.straps = s.straps)
    (ht : t.edge = u.abandonWaits.edge ∧ t.raster = u.abandonWaits.raster ∧ t.barrier = u.abandonWaits.barrier ∧
      t.stream = u.abandonWaits.stream) (hflags : ∀ a, u.abandonWaits.flagSet a = true → t.flagSet a = true) : s.waitsOver t := by
  obtain ⟨hte, htr, htb, hts⟩ := ht
  refine ⟨fun x hx hw hp => ?_, fun b r rest copy hb heng hx hr hop => ?_⟩
  · obtain ⟨hf, hs, htimer, hrast⟩ := abandonWaits_await h hq (hpend.trans hp) (hshift.trans hx) hw
    exact ⟨hflags _ hf, by rw [hte, hs], by rw [hte, htimer], by rw [htr, hrast, hraster]⟩
  · obtain ⟨o, hor, hob, hos, host, hrow⟩ := abandonWaits_noShift h hq (hshift.trans hx)
    have hnow : o.commitNow = (o.commitFor b).settle := by
      unfold State.commitNow
      rw [hob, hpend, hb]
    have hfree : u.abandonWaits.raster.engine ≠ .awaitBarrier := fun k =>
      ((waits_abandonWaits u).present (fun _ => ⟨by rw [hpend, hb]; simp, by rw [hin, hr]; simp⟩) k).1 (gone_abandonWaits h hq).2
    refine barrierOver (o := o) (e := u.abandonWaits) (hor.trans hraster) (by rw [hob, hshown]) (by rw [hos, hin, hr])
      (by rw [host, hstraps, hop]) (hrow.trans hnow) hflags ?_ (htr ▸ hfree) fun _ => ⟨htb, htr, by rw [hts]⟩
    rw [hts]

end Sys2Proof.Machine
end

section
/-! PROOFS. The gap, the own number, and the messages without effect (O42, O50). -/

namespace Sys2Proof.Machine

variable {s : State} {m : Received}

theorem State.Gone.nothingWaits (h : s.Gone) (hp : s.barrier.pending = none) : s.nothingWaits :=
  ⟨hp, fun r rest k => absurd (h.empty.symm.trans k) (by simp), fun x hx hc => absurd hc (h.moving x hx).2⟩

/-- The state at the entry into OUT_OF_STEP, before its waits end (R69, R101). -/
def State.outOfStep (s : State) : State :=
  { s with
    members := { s.members with station := .outOfStep, listenTimer := none, beaconTimer := none, hello := none }
    events := { s.events with flags := s.events.flags ||| Event.canvasLost.bit } }

/-- The LEAVE of a station in OUT_OF_STEP is pending as soon as no record is queued (R80, R101). -/
theorem enterOutOfStep_eq (s : State) : s.enterOutOfStep = { s.outOfStep.abandonWaits with
    members := { s.outOfStep.abandonWaits.members with
      hello := if s.outOfStep.abandonWaits.stream.inbound = [] then some .leave else none } } := by
  have hrow : s.enterOutOfStep = s.outOfStep.abandonWaits.leaveIfDrained := rfl
  have hw := works_abandonWaits s.outOfStep
  have hst : s.outOfStep.abandonWaits.members.station = .outOfStep := hw.station
  rw [hrow]
  unfold State.leaveIfDrained
  by_cases hi : s.outOfStep.abandonWaits.stream.inbound = []
  · rw [if_pos ⟨hst, hi⟩, if_pos hi]
  · rw [if_neg fun k => hi k.2, if_neg hi]
    have hh : s.outOfStep.abandonWaits.members.hello = none := by
      rcases hw.hello with e | ⟨-, -, e⟩
      · exact e
      · exact absurd e hi
    have hm : s.outOfStep.abandonWaits.members = { s.outOfStep.abandonWaits.members with hello := none } := by rw [← hh]
    rw [← hm]

theorem peer_setPeer_const (s : State) (n : Station) {f : Peer → Peer} {P : Peer → Prop} (hf : ∀ p, P (f p)) (h : P (Peer.reset false)) :
    P ((s.setPeer n f).peer n) := by
  rw [peer_setPeer]
  split
  · exact hf _
  · rename_i hn
    have hout : s.peers[n.val]? = none := List.getElem?_eq_none (by simpa using hn)
    simpa [State.peer, hout] using h

/-- What a gap leads to, for the message that shows it: OUT_OF_STEP, and after a LEAVE its sender's departure (R69, R103). -/
def State.gapped (s : State) (m : Received) (leaves : Prop) [Decidable leaves] : State :=
  if leaves then s.enterOutOfStep.peerLeaves m.originator else s.enterOutOfStep

theorem exec_gap {c : Instr} {e : Byte} (h : s.memberHears m) (he : (s.peer m.originator).expected = some e) (hq : m.seq ≠ e - 1)
    {leaves : Prop} [Decidable leaves] (hl : leaves ↔ c = .leaveReceived m ∧ parseHello m.payload = some (.leave s.straps.geometryByte))
    (hc : c = .canvasReceived m ∧ m.seq ≠ e ∨ c = .voteReceived m ∨ c = .edgeReceived m ∨ leaves ∨
      (c = .beaconReceived m ∨ c = .joinReceived m ∨ c = .leaveReceived m) ∧ parseHello m.payload = none ∨
      c = .beaconReceived m ∧ ∃ a v b d f, parseHello m.payload = some (.beacon s.straps.geometryByte a v b d f)) :
    ∃ cls, messageOf c = some (cls, m) ∧ exec c s = .next ((s.handed cls m false).gapped m leaves) := by
  have hm (cls : MsgClass) : (s.handed cls m false).isMember = true := h.isMember
  have hgap (cls : MsgClass) : (s.handed cls m false).showsGap m.originator m.seq = true := by
    rw [showsGap_handed, showsGap_eq, he]
    simpa using hq
  have hnot (hne : c ≠ .leaveReceived m ∨ parseHello m.payload ≠ some (.leave s.straps.geometryByte)) (cls : MsgClass) :
      (s.handed cls m false).gapped m leaves = (s.handed cls m false).enterOutOfStep :=
    if_neg fun k => by
      obtain ⟨k1, k2⟩ := hl.mp k
      exact hne.elim (· k1) (· k2)
  rcases hc with ⟨rfl, hne⟩ | rfl | rfl | k | ⟨hrow, hp⟩ | ⟨rfl, a, v, b, d, f, hp⟩
  · refine ⟨.canvas, rfl, ?_⟩
    rw [hnot (.inl (by simp)), h.hears.exec_canvas, State.judgeCanvas, if_pos (hm _), expected_handed, he]
    simp only [canvasVerdict, if_neg hne, if_neg hq]
  · refine ⟨.vote, rfl, ?_⟩
    rw [hnot (.inl (by simp)), h.hears.exec_vote, State.judgeVote, if_pos (hm _), if_pos (hgap _)]
  · refine ⟨.edge, rfl, ?_⟩
    rw [hnot (.inl (by simp)), h.hears.exec_edge, State.judgeEdge, if_pos (hm _), if_pos (hgap _)]
  · obtain ⟨rfl, hp⟩ := hl.mp k
    refine ⟨.hello, rfl, ?_⟩
    rw [exec_leave h.hears.follows h.hears.running.1 h.hears.running.2 h.hears.other hp h.hears.known, if_pos h.isMember,
      if_pos (showsGap_handed s .hello m false _ _ ▸ hgap .hello), State.gapped, if_pos k]
  · refine ⟨.hello, by rcases hrow with rfl | rfl | rfl <;> rfl, ?_⟩
    rw [hnot (.inr (by simp [hp])), h.hears.exec_malformed hp hrow, State.malformedHello, isForeign_handed, h.hears.known,
      if_neg Bool.false_ne_true, if_pos (hm _), if_pos (hgap _)]
  · refine ⟨.hello, rfl, ?_⟩
    have hrow : exec (.beaconReceived m) s = .next ((s.handed .hello m false).judgeBeacon m a v b d f) :=
      (exec_hello h.hears.follows h.hears.running.1 h.hears.running.2 h.hears.other hp).trans (congrArg _
        (checkGeometry_own (s.handed .hello m false) m.originator fun u => u.judgeBeacon m a v b d f))
    rw [hnot (.inl (by simp)), hrow, State.judgeBeacon, isForeign_handed, h.hears.known, if_neg Bool.false_ne_true, if_pos (hm _), if_pos (hgap _)]

/-- A LEAVE after the gap removes its sender from a station where nothing waits (R103). -/
theorem gapped_leaves {u : State} (hq : u.sendingEdge = false) :
    u.enterOutOfStep.peerLeaves m.originator = { u.enterOutOfStep with
      peers := u.enterOutOfStep.peers.modify m.originator.val (fun p => { p with state := .absent, silence := none })
      events := { u.enterOutOfStep.events with flags :=
        (if u.inRoster m.originator then u.enterOutOfStep.events.flags ||| Event.peerLeft.bit
          else u.enterOutOfStep.events.flags) } } := by
  have hst : u.outOfStep.members.station ≠ .member := by simp [State.outOfStep]
  obtain ⟨hgone, hpend⟩ := gone_abandonWaits hst hq
  have hroster : u.enterOutOfStep.inRoster m.originator = u.inRoster m.originator := by
    rw [enterOutOfStep_eq]
    exact (works_abandonWaits u.outOfStep).inRoster _
  have hwaits : State.nothingWaits { u.enterOutOfStep with
      peers := u.enterOutOfStep.peers.modify m.originator.val (fun p => { p with state := .absent, silence := none })
      events := { u.enterOutOfStep.events with flags := u.enterOutOfStep.events.flags ||| Event.peerLeft.bit } } := by
    refine State.Gone.nothingWaits ?_ ?_ <;> rw [enterOutOfStep_eq]
    · exact hgone.congr rfl rfl rfl (.inl rfl)
    · exact hpend
  rw [State.peerLeaves, removePeer_eq, hroster]
  cases u.inRoster m.originator
  · rfl
  · exact rosterChanged_settled hwaits

/-- Settles O42. -/
theorem gapTakesTheStationOutOfStep : Obligations.GapTakesTheStationOutOfStep := by
  classical
  intro c m s e h he hq leaves hl hc
  obtain ⟨cls, hcls, hrow⟩ := exec_gap h he hq hl hc
  have htx : s.bus.tx = none := h.hears.follows.2.1
  obtain ⟨u, hu⟩ : ∃ u, u = s.handed cls m false := ⟨_, rfl⟩
  rw [← hu] at hrow
  have hquiet : u.sendingEdge = false := by
    have : u.bus.tx = none := hu ▸ htx
    simp [State.sendingEdge, this]
  have hpeer (n : Station) : (u.peer n).expected = (s.peer n).expected ∧ (u.peer n).state = (s.peer n).state := by
    rw [hu, expected_handed, peer_handed]
    exact ⟨rfl, by split <;> simp [Peer.heard_state]⟩
  have hst : u.outOfStep.members.station ≠ .member := by simp [State.outOfStep]
  obtain ⟨v, hv⟩ : ∃ v, v = u.outOfStep.abandonWaits := ⟨_, rfl⟩
  obtain ⟨w, hw⟩ : ∃ w, w = u.enterOutOfStep := ⟨_, rfl⟩
  have hworks : Works u.outOfStep v := hv ▸ works_abandonWaits u.outOfStep
  obtain ⟨hgone, hpend⟩ := hv ▸ gone_abandonWaits hst hquiet
  have hwv : w = { v with members := { v.members with hello := if v.stream.inbound = [] then some .leave else none } } := by
    rw [hw, hv, enterOutOfStep_eq]
  obtain ⟨t, ht⟩ : ∃ t, t = u.gapped m leaves := ⟨_, rfl⟩
  have hstay (k : ¬ leaves) : t = w := by rw [ht, hw]; exact if_neg k
  have hleave (k : leaves) : t = { w with
      peers := w.peers.modify m.originator.val (fun p => { p with state := .absent, silence := none })
      events := { w.events with flags :=
        (if s.inRoster m.originator then w.events.flags ||| Event.peerLeft.bit else w.events.flags) } } := by
    have hroster : u.inRoster m.originator = s.inRoster m.originator := by rw [hu, inRoster_handed]
    rw [ht, hw, ← hroster]
    exact (if_pos k).trans (gapped_leaves hquiet)
  have hflag (a : Event) (hf : v.flagSet a = true) : t.flagSet a = true := by
    by_cases k : leaves
    · rw [hleave k, hwv]
      cases s.inRoster m.originator
      · exact hf
      · exact flagSet_of_raise (s := v) hf
    · rw [hstay k, hwv]
      exact hf
  have hparts : t.members = w.members ∧ t.bus = v.bus ∧ t.stream = v.stream ∧ t.barrier = v.barrier ∧ t.edge = v.edge ∧
      t.raster = v.raster := by
    by_cases k : leaves
    · rw [hleave k, hwv]; exact ⟨rfl, rfl, rfl, rfl, rfl, rfl⟩
    · rw [hstay k, hwv]; exact ⟨rfl, rfl, rfl, rfl, rfl, rfl⟩
  obtain ⟨hmem, hbus, hstream, hbar, hedge, hrast⟩ := hparts
  have hvpeer (n : Station) : (v.peer n).expected = (s.peer n).expected ∧ (v.peer n).state = (s.peer n).state := by
    rw [hworks.peer n]
    exact hpeer n
  have htpeer (n : Station) : (t.peer n).expected = (v.peer n).expected ∧
      (n ≠ m.originator ∨ ¬ leaves → (t.peer n).state = (v.peer n).state) := by
    by_cases k : leaves
    · have hpt : t.peer n = (v.setPeer m.originator fun p => { p with state := .absent, silence := none }).peer n := by
        rw [hleave k, hwv]; rfl
      refine ⟨?_, fun hn => ?_⟩
      · rw [hpt]
        rcases peer_setPeer_apply v m.originator n (fun p => { p with state := .absent, silence := none }) with e | e <;> rw [e]
      · rw [hpt, peer_setPeer_ne v (Ne.symm (hn.resolve_right (not_not.mpr k)))]
    · have hpt : t.peer n = v.peer n := by rw [hstay k, hwv]; rfl
      rw [hpt]
      exact ⟨rfl, fun _ => rfl⟩
  rw [hu] at hrow
  refine ⟨t, by rw [hrow, ht, hu], ?_, ?_, ?_, fun n => ?_, ?_, ?_, ?_, ?_, ?_, ?_, ?_, fun x hx => ?_, ?_, fun n hn => ?_, fun k => ?_,
    ?_, fun ho => ?_, fun cls' hcls' => ?_⟩
  · rw [hmem, hwv]; exact hworks.station
  · exact hflag _ (hworks.keeps.flags _ (by simp [State.outOfStep, Event.bit_getLsbD]))
  · rw [hbus, hworks.bus]; simp [State.outOfStep, hu, State.handed, State.setPeer, State.setFraming]
  · rw [(htpeer n).1, (hvpeer n).1]
  · rw [hstream, hworks.stream]; simp [State.outOfStep, hu, State.handed, State.setPeer, State.setFraming]
  · rw [hstream, hworks.stream]; simp [State.outOfStep, hu, State.handed, State.setPeer, State.setFraming]
  · rw [hstream, hworks.stream]; simp [State.outOfStep, hu, State.handed, State.setPeer, State.setFraming]
  · have hin : u.outOfStep.stream.inbound = s.stream.inbound := by rw [hu]; rfl
    exact hstream ▸ hin ▸ hworks.inbound
  · rw [hmem, hwv, hstream]
  · rw [hmem, hwv, hworks.members]; rfl
  · rw [hbar, hpend]
  · exact (hgone.moving x (hedge ▸ hx)).1
  · rw [hedge, hgone.empty]
  · rw [(htpeer n).2 hn, (hvpeer n).2]
  · have hpt : t.peer m.originator =
        (v.setPeer m.originator fun p => { p with state := .absent, silence := none }).peer m.originator := by
      rw [hleave k, hwv]; rfl
    rw [hpt]
    refine ⟨peer_setPeer_const v _ (P := fun p => p.state = .absent) (fun _ => rfl) rfl,
      peer_setPeer_const v _ (P := fun p => p.silence = none) (fun _ => rfl) rfl, fun hr => ?_⟩
    rw [hleave k, hr]
    simp [State.flagSet, Event.bit_getLsbD]
  · refine waitsOver_abandonWaits (u := u.outOfStep) hst hquiet ?_ ?_ ?_ ?_ ?_ ?_ (hv ▸ ⟨hedge, hrast, hbar, hstream⟩) (hv ▸ hflag) <;>
      simp [State.outOfStep, hu, State.handed, State.setPeer, State.setFraming]
  · have hstrip : v.stripTold := by
      rw [hv]
      exact (waits_abandonWaits u.outOfStep).strips (.inl (by rw [hu]; exact ho))
    exact hflag _ (hstrip.resolve_left (not_not.mpr hgone.empty))
  · obtain rfl : cls' = cls := by
      rw [hcls] at hcls'
      exact ((Prod.mk.inj (Option.some.inj hcls')).1).symm
    refine ⟨v, w, ?_, hwv, hstay, hleave⟩
    rw [hv, hu]
    exact endsWaits_abandonWaits (hu ▸ hst) (hu ▸ hquiet)

/-! ### The own number, and stations that hand nothing on -/

/-- The state at the entry into BUS_FAULT, before its waits end (R61, R106). -/
def State.busFaulted (s : State) : State :=
  { s with
    bus := { s.bus with framing := { s.bus.framing with ackDue := false } }
    members := { s.members with station := .busFault, listenTimer := none, beaconTimer := none }
    peers := s.peers.map (fun p => { p with silence := none })
    events := { s.events with flags := s.events.flags ||| Event.busFault.bit } }

theorem peer_busFaulted (s : State) (n : Station) : s.busFaulted.peer n = { s.peer n with silence := none } := by
  have h : s.busFaulted.peer n = _ := peer_mapPeers s (fun p => { p with silence := none }) n
  rw [h]
  split
  · rfl
  · have hout : s.peers[n.val]? = none := List.getElem?_eq_none (by omega)
    simp [State.peer, hout, Peer.reset]

/-- The station in BUS_FAULT: what the entry sets, and what it ends (R61, R105, R106, R121, R139). -/
theorem enterBusFault_faulted (hq : s.sendingEdge = false) {t : State} (ht : t = s.enterBusFault) :
    t.members = { s.members with station := .busFault, listenTimer := none, beaconTimer := none } ∧ t.flagSet .busFault = true ∧
      t.bus = { s.bus with framing := { s.bus.framing with ackDue := false } } ∧
      (∀ n, (t.peer n).silence = none ∧ (t.peer n).state = (s.peer n).state ∧ (t.peer n).expected = (s.peer n).expected) ∧
      t.edge.outbox = [] ∧ t.barrier.pending = none ∧ t.drivesTbd = false ∧
      (s.edge.outbox ≠ [] → t.flagSet .edgeLost = true) ∧ s.busFaulted.endsWaits t ∧ Works s.busFaulted t := by
  have hrow : s.enterBusFault = s.busFaulted.abandonWaits := rfl
  have hst : s.busFaulted.members.station ≠ .member := by simp [State.busFaulted]
  have hw := works_abandonWaits s.busFaulted
  obtain ⟨hgone, hpend⟩ := gone_abandonWaits hst hq
  have hends := endsWaits_abandonWaits hst hq
  have hwaits := waits_abandonWaits s.busFaulted
  rw [← hrow, ← ht] at hw hgone hpend hends hwaits
  have hhello : t.members.hello = s.members.hello := by
    rcases hw.hello with e | ⟨e, -⟩
    · exact e
    · simp [State.busFaulted] at e
  have hmem : t.members = { s.members with station := .busFault, listenTimer := none, beaconTimer := none } := by
    rw [hw.members, hhello]
    rfl
  refine ⟨hmem, hw.keeps.flags _ (by simp [State.busFaulted, Event.bit_getLsbD]), hw.bus, fun n => ?_, hgone.empty, hpend,
    drivesTbd_released (by simp [State.ownBit, State.handsOn, hmem]), fun ho => ?_, hends, hw⟩
  · rw [hw.peer n, peer_busFaulted]
    exact ⟨rfl, rfl, rfl⟩
  · exact (hwaits.strips (.inl ho)).resolve_left (not_not.mpr hgone.empty)

theorem waitsOver_enterBusFault {u : State} (hq : u.sendingEdge = false)
    (hshift : u.edge.shift = s.edge.shift) (hpend : u.barrier.pending = s.barrier.pending) (hshown : u.barrier.shown = s.barrier.shown)
    (hraster : u.raster = s.raster) (hin : u.stream.inbound = s.stream.inbound) (hstraps : u.straps = s.straps) :
    s.waitsOver u.enterBusFault :=
  waitsOver_abandonWaits (u := u.busFaulted) (by simp [State.busFaulted]) hq hshift hpend hshown hraster hin hstraps
    ⟨rfl, rfl, rfl, rfl⟩ fun _ => id

/-- Every reception is a hand-off to the blocks of its class. -/
theorem exec_message {c : Instr} {cls : MsgClass} (h : messageOf c = some (cls, m)) :
    ∃ f, ∀ s, exec c s = .next (whenRunning s fun s => s.handOn cls m f) := by
  cases c <;> simp only [messageOf, Option.some.injEq, Prod.mk.injEq, reduceCtorEq] at h <;> obtain ⟨rfl, rfl⟩ := h <;>
    exact ⟨_, fun _ => rfl⟩

/-- A message of the right length that a station follows, where no block gets it (R45, R105). -/
theorem handOn_blockless (hf : s.follows) (hl : m.payload.length ≤ Config.maxPayload) (cls : MsgClass) (f : State → State)
    (framed : State) (hfr : framed = s.setFraming { s.bus.framing.ackField (lastRun (frameBits cls m)) with ackDue := false }) :
    (s.handsOn = false → whenRunning s (fun s => s.handOn cls m f) = framed) ∧
    (s.handsOn = true → m.originator = s.straps.n → whenRunning s (fun s => s.handOn cls m f) = framed.enterBusFault) := by
  obtain ⟨hh, ht, hs⟩ := hf
  have hb : s.beforeMessage m.attempt = s := by
    unfold State.beforeMessage
    rcases hs with hs | hs <;> simp [hs]
  have hrow : whenRunning s (fun s => s.handOn cls m f) = if !framed.handsOn then framed
      else if m.originator = framed.straps.n then framed.enterBusFault else f (framed.restartSilence m.originator) := by
    simp only [whenRunning, hh, State.handOn, State.transmitting, ht, hb]
    rw [if_neg (by simp), if_neg (by simp), if_neg (Nat.not_lt.mpr hl), ← hfr]
  have hhands : framed.handsOn = s.handsOn := by rw [hfr]; rfl
  have hn : framed.straps = s.straps := by rw [hfr]; rfl
  rw [hrow, hhands, hn]
  exact ⟨fun k => by rw [k]; rfl, fun k ho => by rw [k, if_neg (by simp), if_pos ho]⟩

theorem unlessForeign_foreign (h : s.isForeign m.originator = true) (cls : MsgClass) (f : State → State) :
    (s.handed cls m false).unlessForeign m f = s.handed cls m false := if_pos (by rw [isForeign_handed, h])

/-- A CANVAS, VOTE or EDGE of a FOREIGN sender reaches no block (R107). -/
theorem exec_foreign (hf : s.follows) (hl : m.payload.length ≤ Config.maxPayload) (h1 : s.members.station ≠ .strapFault)
    (h2 : s.members.station ≠ .busFault) (ho : m.originator ≠ s.straps.n) (hfor : s.isForeign m.originator = true) {c : Instr}
    {cls : MsgClass} (hc : messageOf c = some (cls, m))
    (hkind : cls ≠ .hello ∨ parseHello m.payload = none ∨
      c = .leaveReceived m ∧ parseHello m.payload = some (.leave s.straps.geometryByte) ∨
      ∃ a b x d f, c = .beaconReceived m ∧ parseHello m.payload = some (.beacon s.straps.geometryByte a b x d f)) :
    exec c s = .next (s.handed cls m false) := by
  have hfor' : (s.handed .hello m false).isForeign m.originator = true := (isForeign_handed _ _ _ _ _).trans hfor
  have hblock (cls : MsgClass) (f : State → State) := (handOn_follows (cls := cls) hf hl h1 h2 ho (·.unlessForeign m f)).trans
    (unlessForeign_foreign hfor cls f)
  have hhello (hrow : c = .beaconReceived m ∨ c = .joinReceived m ∨ c = .leaveReceived m)
      (hk : parseHello m.payload = none ∨
      c = .leaveReceived m ∧ parseHello m.payload = some (.leave s.straps.geometryByte) ∨
      ∃ a b x d f, c = .beaconReceived m ∧ parseHello m.payload = some (.beacon s.straps.geometryByte a b x d f)) :
      exec c s = .next (s.handed .hello m false) := by
    rcases hk with hp | ⟨rfl, hp⟩ | ⟨a, b, x, d, f, rfl, hp⟩
    · rw [exec_malformedHello hf hl h1 h2 ho hp hrow, State.malformedHello, if_pos hfor']
    · refine (exec_hello hf h1 h2 ho hp).trans (congrArg _ ((checkGeometry_own (s.handed .hello m false) m.originator
        fun u => u.judgeLeave m).trans ?_))
      exact if_pos hfor'
    · refine (exec_hello hf h1 h2 ho hp).trans (congrArg _ ((checkGeometry_own (s.handed .hello m false) m.originator
        fun u => u.judgeBeacon m a b x d f).trans ?_))
      exact if_pos hfor'
  cases c <;> simp only [messageOf, Option.some.injEq, Prod.mk.injEq, reduceCtorEq] at hc <;> obtain ⟨rfl, rfl⟩ := hc
  case canvasReceived => exact congrArg _ (hblock .canvas _)
  case voteReceived => exact congrArg _ (hblock .vote _)
  case edgeReceived => exact congrArg _ (hblock .edge _)
  case beaconReceived => exact hhello (.inl rfl) (hkind.resolve_left (by simp))
  case joinReceived => exact hhello (.inr (.inl rfl)) (hkind.resolve_left (by simp))
  case leaveReceived => exact hhello (.inr (.inr rfl)) (hkind.resolve_left (by simp))

/-- In OUT_OF_STEP the messages that check for a gap have no effect (R72). -/
theorem exec_outOfStep (h : s.hears m) (hst : s.members.station = .outOfStep) {c : Instr} {cls : MsgClass}
    (hc : messageOf c = some (cls, m))
    (hkind : cls ≠ .hello ∨ parseHello m.payload = none ∨
      ∃ a b x d f, c = .beaconReceived m ∧ parseHello m.payload = some (.beacon s.straps.geometryByte a b x d f)) :
    exec c s = .next (s.handed cls m false) := by
  have hm (cls : MsgClass) : (s.handed cls m false).isMember = false :=
    isMember_of_ne (show s.members.station ≠ .member by simp [hst])
  have ho (cls : MsgClass) : (s.handed cls m false).observes = false :=
    decide_eq_false (show ¬ (s.members.station = .listening ∨ s.members.station = .joining) by simp [hst])
  have hfor : (s.handed .hello m false).isForeign m.originator = false := (isForeign_handed _ _ _ _ _).trans h.known
  have hhello (hrow : c = .beaconReceived m ∨ c = .joinReceived m ∨ c = .leaveReceived m)
      (hk : parseHello m.payload = none ∨
      ∃ a b x d f, c = .beaconReceived m ∧ parseHello m.payload = some (.beacon s.straps.geometryByte a b x d f)) :
      exec c s = .next (s.handed .hello m false) := by
    rcases hk with hp | ⟨a, b, x, d, f, rfl, hp⟩
    · rw [h.exec_malformed hp hrow, State.malformedHello, hfor, hm, ho]
      rfl
    · refine (exec_hello h.follows h.running.1 h.running.2 h.other hp).trans (congrArg _ ((checkGeometry_own
        (s.handed .hello m false) m.originator fun u => u.judgeBeacon m a b x d f).trans ?_))
      rw [State.judgeBeacon, hfor, hm, ho]
      rfl
  cases c <;> simp only [messageOf, Option.some.injEq, Prod.mk.injEq, reduceCtorEq] at hc <;> obtain ⟨rfl, rfl⟩ := hc
  case canvasReceived => rw [h.exec_canvas, State.judgeCanvas, hm, ho]; rfl
  case voteReceived => rw [h.exec_vote, State.judgeVote, hm, ho]; rfl
  case edgeReceived => rw [h.exec_edge, State.judgeEdge, hm, ho]; rfl
  case beaconReceived => exact hhello (.inl rfl) (hkind.resolve_left (by simp))
  case joinReceived => exact hhello (.inr (.inl rfl)) (hkind.resolve_left (by simp))
  case leaveReceived => exact hhello (.inr (.inr rfl)) (hkind.resolve_left (by simp))

/-- Settles O50. -/
theorem messagesWithoutEffect : Obligations.MessagesWithoutEffect := by
  intro cls c m s hf hl hc
  obtain ⟨f, hrow⟩ := exec_message hc
  obtain ⟨framed, hfr⟩ : ∃ u, u = s.setFraming { s.bus.framing.ackField (lastRun (frameBits cls m)) with ackDue := false } := ⟨_, rfl⟩
  obtain ⟨hdeaf, hown⟩ := handOn_blockless hf hl cls f framed hfr
  refine ⟨fun hst => ?_, fun h1 h2 => ⟨fun ho => ?_, fun ho hfor hkind => ?_, fun ho hfor hst hkind => ?_, fun ho hfor hst hstep hcls hp => ?_⟩⟩
  · rw [hrow, hdeaf (by rcases hst with k | k <;> simp [State.handsOn, k]), hfr]
    rfl
  · have htx : framed.sendingEdge = false := by
      have : framed.bus.tx = none := hfr ▸ hf.2.1
      simp [State.sendingEdge, this]
    obtain ⟨hmem, hflag, hbus, hpeer, hout, hpend, hdrive, hlost, hends, hw⟩ := enterBusFault_faulted htx rfl
    have hpeers (n : Station) : framed.peer n = s.peer n := peer_of_peers (by rw [hfr]; rfl) n
    refine ⟨framed.enterBusFault, (hrow s).trans (congrArg _ (hown (by simp [State.handsOn, h1, h2]) ho)), ?_, hflag, ?_, ?_, ?_, ?_,
      ?_, ?_, fun n => ⟨(hpeer n).1, by rw [(hpeer n).2.1, hpeers]⟩, hout, hpend, ?_, hdrive, ?_, fun k => hlost (by rw [hfr]; exact k), ?_⟩
    · rw [hmem]
    · have hin : framed.busFaulted.stream.inbound = s.stream.inbound := by rw [hfr]; rfl
      exact hin ▸ hw.inbound
    · rw [hw.stream, hfr]; rfl
    · rw [hw.stream, hfr]; rfl
    · rw [hmem]
    · rw [hmem]
    · rw [hmem, hfr]; rfl
    · rw [hbus]
    · exact waitsOver_enterBusFault htx (by rw [hfr]; rfl) (by rw [hfr]; rfl) (by rw [hfr]; rfl) (by rw [hfr]; rfl)
        (by rw [hfr]; rfl) (by rw [hfr]; rfl)
    · rw [hfr] at hends ⊢
      exact hends
  · exact exec_foreign hf hl h1 h2 ho hfor hc hkind
  · exact exec_outOfStep ⟨hf, hl, ⟨h1, h2⟩, ho, hfor⟩ hst hc hkind
  · have hmember : s.memberHears m := ⟨hf, hst, hl, ho, hfor⟩
    have hkind : c = .beaconReceived m ∨ c = .joinReceived m ∨ c = .leaveReceived m := by
      subst hcls
      cases c <;> simp only [messageOf, Option.some.injEq, Prod.mk.injEq, reduceCtorEq, false_and] at hc <;> obtain ⟨-, rfl⟩ := hc <;> simp
    rw [hmember.hears.exec_malformed hp hkind, State.malformedHello, isForeign_handed, hfor, if_neg Bool.false_ne_true,
      if_pos (c := (s.handed .hello m false).isMember = true) hmember.isMember, showsGap_handed, showsGap_inStep hstep, hcls]
    rfl

end Sys2Proof.Machine
end

section
/-! PROOFS. The fourth consecutive abort (O36). -/

namespace Sys2Proof.Machine

variable {s : State} {x : Txn}

/-- A roster peer that an own CANVAS or VOTE loses, having acked at no attempt (R53, R104). -/
def State.loses (s : State) (x : Txn) (n : Station) : Prop :=
  (x.owner = .canvas ∨ ∃ e, x.owner = .vote e) ∧ s.inRoster n = true ∧ n ∉ x.acked

/-- What the owner of a transaction that is ABORTED-AFTER-CRC for the fourth time has changed, before the roster change, the outbox
and the commit condition are looked at (R53, R54, R76, R104, R115, R141). -/
structure State.Told (s : State) (x : Txn) (p : State) : Prop where
  bus : p.bus = s.bus
  straps : p.straps = s.straps
  station : p.members.station = s.members.station
  hello : p.members.hello = if x.owner = .beacon ∨ x.owner = .join ∨ x.owner = .leave then none else s.members.hello
  expected : ∀ n, (p.peer n).expected = (s.peer n).expected ∧ (p.peer n).voted = (s.peer n).voted
  peer : ∀ n, (s.loses x n → (p.peer n).state = .dropped) ∧ (¬ s.loses x n → (p.peer n).state = (s.peer n).state)
  stream : p.stream = { s.stream with outbound := if x.owner = .canvas then s.stream.outbound.tail else s.stream.outbound }
  raster : p.raster = s.raster
  shift : p.edge.shift = s.edge.shift
  outbox : p.edge.outbox = s.edge.outbox ∨ (∃ n, x.owner = .edge n) ∧ p.edge.outbox = s.edge.outbox.tail
  barrier : p.barrier = { s.barrier with voted := p.barrier.voted, slot := p.barrier.slot }
  voted : (∀ e, x.owner = .vote e → p.barrier.voted = (if epochAtOrAfter e s.barrier.voted then e else s.barrier.voted) ∧
      p.barrier.slot = if s.barrier.slot = some e then none else s.barrier.slot) ∧
    ((∀ e, x.owner ≠ .vote e) → p.barrier.voted = s.barrier.voted ∧ p.barrier.slot = s.barrier.slot)
  flags : ∀ a, p.flagSet a = true ↔ s.flagSet a = true ∨
    a = .outboundSpace ∧ x.owner = .canvas ∧ s.stream.outbound.length = 8 ∨ a = .peerLeft ∧ (∃ n, s.loses x n) ∨
    a = .edgeLost ∧ ∃ target, x.owner = .edge target ∧ target ∉ x.acked

theorem peer_dropNonAckers (s : State) (acked : List Station) (n : Station) : (s.dropPeers (s.nonAckers acked)).peer n =
    if s.inRoster n = true ∧ n ∉ acked then (s.peer n).drop else s.peer n := by
  have hp : (s.dropPeers (s.nonAckers acked)).peers = (s.nonAckers acked).foldl (fun l n => l.modify n.val Peer.drop) s.peers := by
    rw [dropPeers_eq, raiseIf_eq]
  have hmem : (∃ k ∈ s.nonAckers acked, k.val = n.val) ↔ s.inRoster n = true ∧ n ∉ acked := by
    rw [← mem_nonAckers]
    exact ⟨fun ⟨k, hk, e⟩ => Fin.ext e ▸ hk, fun h => ⟨n, h, rfl⟩⟩
  unfold State.peer
  rw [hp, getElem?_foldl_modify Peer.drop (fun _ => rfl)]
  simp only [hmem]
  cases hl : s.peers[n.val]? with
  | some p => rfl
  | none =>
    rw [if_neg]
    · rfl
    · rintro ⟨hr, -⟩
      rw [inRoster_iff] at hr
      simp [State.peer, hl, Peer.reset] at hr

theorem flagSet_dropNonAckers (s : State) (acked : List Station) (a : Event) : (s.dropPeers (s.nonAckers acked)).flagSet a = true ↔
    s.flagSet a = true ∨ a = .peerLeft ∧ ∃ n, s.inRoster n = true ∧ n ∉ acked := by
  have hany : (!(s.nonAckers acked).isEmpty) = true ↔ ∃ n, s.inRoster n = true ∧ n ∉ acked := by
    rw [Bool.not_eq_true', List.isEmpty_eq_false_iff_exists_mem]
    exact exists_congr fun n => mem_nonAckers s acked n
  rw [dropPeers_eq, flagSet_raiseIf]
  by_cases h : ∃ n, s.inRoster n = true ∧ n ∉ acked
  · simp [hany.mpr h, h, State.flagSet]
  · simp [eq_false_of_ne_true (hany.not.mpr h), h, State.flagSet]

/-- The drops of an own VOTE or CANVAS, made on the state v that its owner has changed. -/
theorem told_drop {v : State} (hown : x.owner = .canvas ∨ ∃ e, x.owner = .vote e) (hp : v.peers = s.peers)
    (hv : v.bus = s.bus ∧ v.straps = s.straps ∧ v.members = s.members ∧ v.raster = s.raster ∧ v.edge = s.edge)
    (hstream : v.stream = { s.stream with outbound := if x.owner = .canvas then s.stream.outbound.tail else s.stream.outbound })
    (hbar : v.barrier = { s.barrier with voted := v.barrier.voted, slot := v.barrier.slot })
    (hvoted : (∀ e, x.owner = .vote e → v.barrier.voted = (if epochAtOrAfter e s.barrier.voted then e else s.barrier.voted) ∧
        v.barrier.slot = if s.barrier.slot = some e then none else s.barrier.slot) ∧
      ((∀ e, x.owner ≠ .vote e) → v.barrier.voted = s.barrier.voted ∧ v.barrier.slot = s.barrier.slot))
    (hflags : ∀ a, v.flagSet a = true ↔ s.flagSet a = true ∨ a = .outboundSpace ∧ x.owner = .canvas ∧ s.stream.outbound.length = 8) :
    s.Told x (v.dropPeers (v.nonAckers x.acked)) := by
  have hroster (n : Station) : v.inRoster n = s.inRoster n := by unfold State.inRoster; rw [peer_of_peers hp]
  have hloses (n : Station) : s.loses x n ↔ s.inRoster n = true ∧ n ∉ x.acked := and_iff_right hown
  have hframe : v.dropPeers (v.nonAckers x.acked) = { v with
      peers := (v.dropPeers (v.nonAckers x.acked)).peers, events := (v.dropPeers (v.nonAckers x.acked)).events } := by
    rw [dropPeers_eq, raiseIf_eq]
  have hpeer (n : Station) := peer_dropNonAckers v x.acked n
  simp only [hroster, peer_of_peers hp] at hpeer
  have hnot : ¬ (x.owner = .beacon ∨ x.owner = .join ∨ x.owner = .leave) := by
    rcases hown with e | ⟨_, e⟩ <;> simp [e]
  have hedge (n : Station) : x.owner ≠ .edge n := by rcases hown with e | ⟨_, e⟩ <;> simp [e]
  obtain ⟨hb, hs, hm, hr, he⟩ := hv
  constructor
  · rw [hframe, ← hb]
  · rw [hframe, ← hs]
  · rw [hframe, ← hm]
  · rw [hframe, if_neg hnot, ← hm]
  · intro n
    rw [hpeer n]
    split <;> exact ⟨rfl, rfl⟩
  · intro n
    rw [hpeer n, hloses]
    exact ⟨fun k => by rw [if_pos k]; rfl, fun k => by rw [if_neg k]⟩
  · rw [hframe, ← hstream]
  · rw [hframe, ← hr]
  · rw [hframe, ← he]
  · refine .inl ?_
    rw [hframe, ← he]
  · rw [hframe]
    exact hbar
  · rw [hframe]
    exact hvoted
  · intro a
    rw [flagSet_dropNonAckers, hflags]
    simp only [hroster, hloses, hedge, false_and, exists_false, and_false, or_false]
    tauto

/-- The owner's part, and what it then looks at (R53, R54, R57, R89). -/
theorem ownerEnds_told (x : Txn) : ∃ p, s.Told x p ∧
    (s.ownerEnds x .abortedAfterCrc true = p ∧ (x.owner = .beacon ∨ x.owner = .join ∨ x.owner = .leave ∨ x.owner = .canvas) ∨
      s.ownerEnds x .abortedAfterCrc true = p.recheckOutbox ∧ (∃ n, x.owner = .edge n) ∨
      s.ownerEnds x .abortedAfterCrc true = p.rosterChanged ∧ (x.owner = .canvas ∨ ∃ e, x.owner = .vote e) ∨
      s.ownerEnds x .abortedAfterCrc true = p.evaluateCommit ∧ ∃ e, x.owner = .vote e) := by
  have hempty (v : State) (h : (!(v.nonAckers x.acked).isEmpty) = false) : v.dropPeers (v.nonAckers x.acked) = v := by
    have hnil : v.nonAckers x.acked = [] := by simpa using h
    rw [hnil]
    rfl
  have hsame {v : State} (h : v.peers = s.peers) : v.nonAckers x.acked = s.nonAckers x.acked := nonAckers_congr h _
  cases ho : x.owner with
  | vote e =>
    refine ⟨(s.countVote e).dropPeers ((s.countVote e).nonAckers x.acked), told_drop (.inr ⟨e, ho⟩) rfl ⟨rfl, rfl, rfl, rfl, rfl⟩
      (by simp [State.countVote, ho]) rfl ⟨fun e' he' => ?_, fun h => absurd ho (h e)⟩ (fun a => by simp [State.countVote, State.flagSet, ho]), ?_⟩
    · obtain rfl : e = e' := by simpa using ho.symm.trans he'
      exact ⟨rfl, rfl⟩
    · unfold State.ownerEnds
      rw [ho]
      dsimp only
      cases hd : !(s.nonAckers x.acked).isEmpty with
      | true => exact .inr (.inr (.inl ⟨if_pos hd, .inr ⟨e, rfl⟩⟩))
      | false =>
        rw [hempty _ (hsame (v := s.countVote e) rfl ▸ hd)]
        exact .inr (.inr (.inr ⟨if_neg (ne_true_of_eq_false hd), e, rfl⟩))
  | canvas =>
    have hrem := removeOutbound_eq s
    refine ⟨s.removeOutbound.dropPeers (s.removeOutbound.nonAckers x.acked), told_drop (.inl ho) (by rw [hrem])
      (by rw [hrem]; exact ⟨rfl, rfl, rfl, rfl, rfl⟩) (by rw [hrem]; simp [ho]) (by rw [hrem]) (by rw [hrem]; simp [ho]) (fun a => ?_), ?_⟩
    · rw [State.removeOutbound, flagSet_raiseIf]
      by_cases hl : s.stream.outbound.length = 8 <;> simp [hl, ho, State.flagSet, Config.outboundPlaces]
    · unfold State.ownerEnds
      rw [ho]
      dsimp only
      cases hd : !(s.nonAckers x.acked).isEmpty with
      | true => exact .inr (.inr (.inl ⟨if_pos hd, .inl rfl⟩))
      | false =>
        rw [hempty _ (hsame (v := s.removeOutbound) (by rw [hrem]) ▸ hd)]
        exact .inl ⟨if_neg (ne_true_of_eq_false hd), by simp⟩
  | edge target =>
    refine ⟨(s.setOutbox s.edge.outbox.tail).raiseIf (!x.acked.contains target) .edgeLost, ?_, .inr (.inl ⟨?_, target, rfl⟩)⟩
    · have hno (n : Station) : ¬ s.loses x n := by simp [State.loses, ho]
      rw [raiseIf_eq]
      refine ⟨rfl, rfl, rfl, by simp [ho], fun n => ⟨rfl, rfl⟩, fun n => ⟨fun h => absurd h (hno n), fun _ => rfl⟩, by simp [ho], rfl, rfl,
        .inr ⟨⟨target, ho⟩, rfl⟩, rfl, ⟨fun e h => by simp [ho] at h, fun _ => ⟨rfl, rfl⟩⟩, fun a => ?_⟩
      have hf := flagSet_raiseIf (s.setOutbox s.edge.outbox.tail) (!x.acked.contains target) .edgeLost a
      rw [raiseIf_eq] at hf
      rw [hf]
      simp [ho, hno, State.flagSet]
      tauto
    · simp only [State.ownerEnds, ho]
  | beacon | join | leave =>
    have hno (n : Station) : ¬ s.loses x n := by simp [State.loses, ho]
    refine ⟨s.ownerEnds x .abortedAfterCrc true, ?_, .inl ⟨rfl, by simp⟩⟩
    simp only [State.ownerEnds, ho]
    exact ⟨rfl, rfl, rfl, by simp [ho], fun n => ⟨rfl, rfl⟩, fun n => ⟨fun h => absurd h (hno n), fun _ => rfl⟩, by simp [ho], rfl, rfl,
      .inl rfl, rfl, ⟨fun e h => by simp [ho] at h, fun _ => ⟨rfl, rfl⟩⟩, fun a => by simp [ho, hno, State.flagSet]⟩

/-! ### What waited -/

theorem recheckOutbox_shift (h : ∀ y, s.edge.shift = some y → y.step ≠ .capture) : s.recheckOutbox.edge.shift = s.edge.shift := by
  have hrow := recheckOutbox_eq (s := s) (eligible := fun r => s.edgeEligible r || s.sendingEdge) fun r => by simp
  rw [hrow, tryCapture_idle]
  · rfl
  · exact h

/-- What waited is over after the entry into BUS_FAULT, whether or not the barrier committed before it (R35). -/
theorem waitsOver_afterCommit {q u : State} (hq : q.sendingEdge = false) (hbus : u.bus = q.bus)
    (hu : u = q ∨ ∃ b, q.barrier.pending = some b ∧ u = (q.commitFor b).settle)
    (hshift : (∀ y, s.edge.shift = some y → y.step ≠ .capture) → q.edge.shift = s.edge.shift)
    (hpend : q.barrier.pending = s.barrier.pending) (hshown : q.barrier.shown = s.barrier.shown)
    (hraster : q.raster = s.raster) (hin : q.stream.inbound = s.stream.inbound) (hstraps : q.straps = s.straps) :
    s.waitsOver u.enterBusFault := by
  by_cases hc : ∀ y, s.edge.shift = some y → y.step ≠ .capture
  · rcases hu with rfl | ⟨b', hb', hu⟩
    · exact waitsOver_enterBusFault hq (hshift hc) hpend hshown hraster hin hstraps
    · refine ⟨fun y _ _ hp => absurd ((hpend.symm.trans hb').symm.trans hp) (by simp), fun b r rest copy hb heng hx hr hop => ?_⟩
      obtain rfl : b' = b := by simpa using (hpend.symm.trans hb').symm.trans hb
      have hin' : q.stream.inbound = r :: rest := hin.trans hr
      have hop' : parseOp q.straps r.bytes = some (.present copy) := by rw [hstraps, hop]
      have hquiet : u.sendingEdge = false := by unfold State.sendingEdge; rw [hbus]; exact hq
      obtain ⟨-, -, -, -, -, hpend', -, -, -, hw⟩ := enterBusFault_faulted hquiet rfl
      have hwaits : u.presentHeld := by
        rw [hu]
        exact ((waits_commitFor q b').trans (waits_settle _)).present fun _ => ⟨by rw [hb']; simp, by rw [hin']; simp⟩
      have hfree : u.enterBusFault.raster.engine ≠ .awaitBarrier := fun k =>
        ((waits_abandonWaits u.busFaulted).present hwaits k).1 hpend'
      refine barrierOver hraster hshown hin' hop' hu (fun a ha => hw.keeps.flags _ ?_) hw.inbound hfree fun hdone => ?_
      · exact flagSet_of_raise (s := u) ha
      · obtain ⟨-, -, hbar, hcopy, hswap⟩ := commitFor_settle_over hin' hop' hu
        have hnoshift : u.edge.shift = none := by
          cases copy with
          | true => rw [(hcopy rfl).2.2, hshift hc, hx]
          | false => exact ((hswap rfl).2 (hdone.resolve_left (by simp))).2
        obtain ⟨o, hor, hob, hos, -, hrow⟩ := abandonWaits_noShift (s := u.busFaulted) (by simp [State.busFaulted]) hquiet hnoshift
        have hnone : o.barrier.pending = none := by
          rw [hob]
          exact congrArg Barrier.pending (hbar hdone)
        have ht : u.enterBusFault = o := hrow.trans (commitNow_none hnone)
        rw [ht, hor, hob, hos]
        exact ⟨rfl, rfl, rfl⟩
  · push Not at hc
    obtain ⟨y, hy, hstep⟩ := hc
    refine ⟨fun z hz hw => ?_, fun b r rest copy hb heng hx => absurd (hx.symm.trans hy) (by simp)⟩
    obtain rfl := Option.some.inj (hy.symm.trans hz)
    rw [hstep] at hw
    cases hw

/-- The owner's part of a fourth ABORTED-AFTER-CRC: what it has changed, what it has looked at, and what is over at the entry into
BUS_FAULT that follows. -/
theorem ownerEnds_over (hq : s.sendingEdge = false) (x : Txn) {u : State} (hu : u = s.ownerEnds x .abortedAfterCrc true) :
    ∃ p, s.Told x p ∧ Works p u ∧ Waits p u ∧ s.waitsOver u.enterBusFault ∧
      (x.owner = .beacon ∨ x.owner = .join ∨ x.owner = .leave → u = p) ∧
      ((x.owner ≠ .canvas ∧ (∀ e, x.owner ≠ .vote e)) ∨ s.barrier.pending = none ∨
          (∃ b n v, s.barrier.pending = some b ∧ s.inRoster n = true ∧ n ∈ x.acked ∧ (s.peer n).voted = some v ∧
            epochAtOrAfter v b = false) → u.barrier = p.barrier) := by
  obtain ⟨p, hp, hrow⟩ := ownerEnds_told (s := s) x
  rw [← hu] at hrow
  have hrecheck := recheckOutbox_frame p
  have hsend : p.sendingEdge = false := by unfold State.sendingEdge; rw [hp.bus]; exact hq
  have hbarrier (q : State) (hb : q.barrier = p.barrier) (hpe : q.peers = p.peers)
      (h : s.barrier.pending = none ∨ (∃ b n v, s.barrier.pending = some b ∧ s.inRoster n = true ∧ n ∈ x.acked ∧
        (s.peer n).voted = some v ∧ epochAtOrAfter v b = false)) : q.evaluateCommit = q := by
    have hpend : q.barrier.pending = s.barrier.pending := by rw [hb, hp.barrier]
    rcases h with h | ⟨b, n, v, h, hr, ha, hv, hnot⟩
    · exact evaluateCommit_none (hpend.trans h)
    · rw [evaluateCommit_some (hpend.trans h), if_neg]
      rw [commitReady_iff]
      rintro ⟨-, hall⟩
      have hstill : q.inRoster n = true := by
        rw [inRoster_iff, peer_of_peers hpe, (hp.peer n).2 fun k => k.2.2 ha]
        exact (inRoster_iff s n).mp hr
      obtain ⟨v', hv', hafter⟩ := hall n hstill
      rw [peer_of_peers hpe, (hp.expected n).2, hv] at hv'
      obtain rfl := Option.some.inj hv'
      rw [hnot] at hafter
      cases hafter
  have hover {q : State} (hqb : q.bus = p.bus) (hqs : q.straps = p.straps) (hqr : q.raster = p.raster) (hqbar : q.barrier = p.barrier)
      (hqst : q.stream = p.stream) (hqx : (∀ y, p.edge.shift = some y → y.step ≠ .capture) → q.edge.shift = p.edge.shift)
      (hw : Works q u) (hcom : u = q ∨ ∃ b, q.barrier.pending = some b ∧ u = (q.commitFor b).settle) : s.waitsOver u.enterBusFault := by
    refine waitsOver_afterCommit (q := q) (by unfold State.sendingEdge; rw [hqb]; exact hsend) hw.bus hcom (fun hc => ?_) ?_ ?_ ?_ ?_ ?_
    · rw [hqx (hp.shift ▸ hc), hp.shift]
    · rw [hqbar, hp.barrier]
    · rw [hqbar, hp.barrier]
    · rw [hqr, hp.raster]
    · rw [hqst, hp.stream]
    · rw [hqs, hp.straps]
  have hcommit (q : State) : q.evaluateCommit = q ∨ ∃ b, q.barrier.pending = some b ∧ q.evaluateCommit = (q.commitFor b).settle := by
    cases hb : q.barrier.pending with
    | none => exact .inl (evaluateCommit_none hb)
    | some b =>
      rw [evaluateCommit_some hb]
      split
      · exact .inr ⟨b, rfl, rfl⟩
      · exact .inl rfl
  rcases hrow with ⟨hrow, how⟩ | ⟨hrow, n, how⟩ | ⟨hrow, how⟩ | ⟨hrow, e, how⟩
  · refine ⟨p, hp, hrow ▸ Works.refl u, hrow ▸ Waits.refl u, ?_, fun _ => hrow, fun _ => by rw [hrow]⟩
    exact hover rfl rfl rfl rfl rfl (fun _ => rfl) (hrow ▸ Works.refl u) (.inl hrow)
  · refine ⟨p, hp, hrow ▸ works_recheckOutbox p, hrow ▸ waits_recheckOutbox p, ?_, fun h => by simp [how] at h, fun _ => ?_⟩
    · refine hover (q := p.recheckOutbox) ?_ ?_ ?_ ?_ ?_ recheckOutbox_shift (hrow ▸ Works.refl u) (.inl hrow) <;> rw [hrecheck]
    · rw [hrow, hrecheck]
  · have hne : ¬ (x.owner = .beacon ∨ x.owner = .join ∨ x.owner = .leave) ∧
        ¬ (x.owner ≠ .canvas ∧ ∀ e, x.owner ≠ .vote e) := by rcases how with e | ⟨e', e⟩ <;> simp [e]
    refine ⟨p, hp, hrow ▸ works_rosterChanged p, hrow ▸ waits_rosterChanged p, ?_, fun h => absurd h hne.1, fun h => ?_⟩
    · have hw : Works p.recheckOutbox u := hrow ▸ works_evaluateCommit p.recheckOutbox
      refine hover (q := p.recheckOutbox) ?_ ?_ ?_ ?_ ?_ recheckOutbox_shift hw (hrow ▸ hcommit p.recheckOutbox) <;> rw [hrecheck]
    · rw [hrow, State.rosterChanged, hbarrier p.recheckOutbox (by rw [hrecheck]) (by rw [hrecheck]) (h.resolve_left hne.2), hrecheck]
  · have hne : ¬ (x.owner = .beacon ∨ x.owner = .join ∨ x.owner = .leave) ∧
        ¬ (x.owner ≠ .canvas ∧ ∀ e, x.owner ≠ .vote e) := by simp [how]
    refine ⟨p, hp, hrow ▸ works_evaluateCommit p, hrow ▸ waits_evaluateCommit p, ?_, fun h => absurd h hne.1, fun h => ?_⟩
    · exact hover rfl rfl rfl rfl rfl (fun _ => rfl) (hrow ▸ works_evaluateCommit p) (hrow ▸ hcommit p)
    · rw [hrow, hbarrier p rfl rfl (h.resolve_left hne.2)]

/-- The fourth consecutive abort: the owner's part, unless it is ABORTED, and the entry into BUS_FAULT (R54). -/
theorem exec_fourthAbort (hh : s.held = false) (hx : s.bus.tx = some x) {w l : Nat} (hp : x.phase = .breaking w l false)
    (ha : 3 ≤ s.bus.aborts) (v : State) (hv : v = { s with bus := { framing := s.bus.framing.afterOwn x.phase, tx := none, aborts := 4 } }) :
    exec .transactionEnd s =
      .next (if x.crcDone then (v.ownerEnds x .abortedAfterCrc true).enterBusFault else v.enterBusFault) := by
  have hout : x.outcome = some (some (if x.crcDone then .abortedAfterCrc else .aborted)) := by simp [Txn.outcome, hp]
  have hab : min Config.maxAborts (s.bus.aborts + 1) = 4 := Nat.min_eq_left (by show 4 ≤ _; omega)
  rw [exec_transactionEnd hh hx hout]
  refine congrArg _ ?_
  unfold State.endTransaction
  cases x.crcDone with
  | true =>
    have hn : abortsAfter s.bus.aborts .abortedAfterCrc = 4 := hab
    simp only [if_true, hn, reduceCtorEq, if_false]
    rw [← hv]
    rfl
  | false =>
    have hn : abortsAfter s.bus.aborts .aborted = 4 := hab
    simp only [Bool.false_eq_true, if_false, hn, if_true]
    rw [← hv]
    rfl

/-- The flags that no entry into BUS_FAULT raises. -/
theorem flagSet_busFaulted {t : State} (h : Works s.busFaulted t) {a : Event} (h1 : a ≠ .frame) (h2 : a ≠ .commit) (h3 : a ≠ .edgeLost)
    (h4 : a ≠ .edgeTimeout) (h5 : a ≠ .busFault) : t.flagSet a = s.flagSet a := by
  rw [h.flags a h1 h2 h3 h4]
  exact (flagSet_raise s .busFault a).trans (by simp [h5])

/-- Settles O36. -/
theorem fourthAbortEntersBusFault : Obligations.FourthAbortEntersBusFault := by
  intro s x w l hh hx hp ha
  obtain ⟨v, hv⟩ : ∃ v, v = { s with bus := { framing := s.bus.framing.afterOwn x.phase, tx := none, aborts := 4 } } := ⟨_, rfl⟩
  have hq : v.sendingEdge = false := by rw [hv]; rfl
  have hrow := exec_fourthAbort hh hx hp ha v hv
  cases hcrc : x.crcDone with
  | false =>
    rw [hcrc, if_neg Bool.false_ne_true] at hrow
    obtain ⟨hmem, hflag, hbus, hpeer, hout, hpend, hdrive, hlost, hends, hw⟩ := enterBusFault_faulted hq rfl
    have hf (a : Event) (h1 : a ≠ .frame) (h2 : a ≠ .commit) (h3 : a ≠ .edgeLost) (h4 : a ≠ .edgeTimeout) (h5 : a ≠ .busFault) :
        v.enterBusFault.flagSet a = s.flagSet a := (flagSet_busFaulted hw h1 h2 h3 h4 h5).trans (by rw [hv]; rfl)
    have hst : v.busFaulted.members.station ≠ .member := by simp [State.busFaulted]
    refine ⟨v.enterBusFault, hrow, by rw [hmem], by rw [hbus, hv], by rw [hbus, hv], hflag, by rw [hmem], by rw [hmem],
      fun n => (hpeer n).1, hout, hpend, hdrive, ?_, fun n => ?_, ?_, ?_, ?_, fun lost hl => ⟨fun n => ?_, ?_⟩, fun counted hc => ⟨?_, ?_, ?_⟩,
      fun _ => ?_, fun _ _ _ _ => ?_, ?_, fun ho _ => ?_, fun _ => ?_⟩
    · exact hf _ (by simp) (by simp) (by simp) (by simp) (by simp)
    · rw [(hpeer n).2.2, hv]; rfl
    · rw [hw.stream, hv]; simp [State.busFaulted]
    · rw [hf _ (by simp) (by simp) (by simp) (by simp) (by simp)]; simp
    · exact fun _ _ h => by simp at h
    · have hnot : ¬ lost n := fun k => by simpa using ((hl n).mp k).2.1
      exact ⟨fun k => absurd k hnot, fun _ => by rw [(hpeer n).2.1, hv]; rfl⟩
    · rw [hf _ (by simp) (by simp) (by simp) (by simp) (by simp)]
      refine (or_iff_left ?_).symm
      rintro ⟨n, k⟩
      simpa using ((hl n).mp k).2.1
    · exact fun e k => by simpa using ((hc e).mp k).2
    · exact fun _ => by rw [hw.voted, hv]; rfl
    · exact fun _ => ⟨fun e k => by simpa using ((hc e).mp k).2, fun _ => by rw [hw.slot hst, hv]; rfl⟩
    · rw [hmem, hv]; rfl
    · rw [hmem, hv]
    · exact waitsOver_enterBusFault hq (by rw [hv]) (by rw [hv]) (by rw [hv]) (by rw [hv]) (by rw [hv]) (by rw [hv])
    · exact hlost (by rw [hv]; exact ho)
    · rw [hv] at hends ⊢
      exact hends
  | true =>
    rw [hcrc, if_pos rfl] at hrow
    obtain ⟨u, hu⟩ : ∃ u, u = v.ownerEnds x .abortedAfterCrc true := ⟨_, rfl⟩
    rw [← hu] at hrow
    obtain ⟨p, hT, hwu, hwaits, hover, hhello, hbarrier⟩ := ownerEnds_over hq x hu
    have hqu : u.sendingEdge = false := by unfold State.sendingEdge; rw [hwu.bus, hT.bus]; exact hq
    obtain ⟨hmem, hflag, hbus, hpeer, hout, hpend, hdrive, hlost, hends, hw⟩ := enterBusFault_faulted hqu rfl
    have hst : u.busFaulted.members.station ≠ .member := by simp [State.busFaulted]
    have hf (a : Event) (h1 : a ≠ .frame) (h2 : a ≠ .commit) (h3 : a ≠ .edgeLost) (h4 : a ≠ .edgeTimeout) (h5 : a ≠ .busFault) :
        u.enterBusFault.flagSet a = p.flagSet a := (flagSet_busFaulted hw h1 h2 h3 h4 h5).trans (hwu.flags a h1 h2 h3 h4)
    have hkeep (a : Event) (k : p.flagSet a = true) : u.enterBusFault.flagSet a = true :=
      hw.keeps.flags _ (flagSet_of_raise (s := u) (hwu.keeps.flags _ k))
    have hflags (a : Event) : p.flagSet a = true ↔ s.flagSet a = true ∨
        a = .outboundSpace ∧ x.owner = .canvas ∧ s.stream.outbound.length = 8 ∨ a = .peerLeft ∧ (∃ n, s.loses x n) ∨
        a = .edgeLost ∧ ∃ target, x.owner = .edge target ∧ target ∉ x.acked := by
      rw [hv] at hT
      exact hT.flags a
    have hstate (n : Station) : (u.enterBusFault.peer n).state = (p.peer n).state ∧
        (u.enterBusFault.peer n).expected = (p.peer n).expected := by
      rw [(hpeer n).2.1, (hpeer n).2.2, hwu.peer n]
      exact ⟨rfl, rfl⟩
    have hpstate (n : Station) : (s.loses x n → (p.peer n).state = .dropped) ∧ (¬ s.loses x n → (p.peer n).state = (s.peer n).state) := by
      rw [hv] at hT
      exact hT.peer n
    refine ⟨u.enterBusFault, hrow, by rw [hmem], ?_, ?_, hflag, by rw [hmem], by rw [hmem], fun n => (hpeer n).1, hout, hpend, hdrive, ?_,
      fun n => ?_, ?_, ?_, fun target ho _ hack => ?_, fun lost hl => ⟨fun n => ?_, ?_⟩, fun counted hc => ⟨fun e k => ?_, fun k => ?_, fun k => ?_⟩,
      fun k => ?_, fun h1 h2 h3 h4 => ?_, ?_, fun ho hedge => ?_, fun k => by simp at k⟩
    · rw [hbus, hwu.bus, hT.bus, hv]
    · rw [hbus, hwu.bus, hT.bus, hv]
    · rw [hf _ (by simp) (by simp) (by simp) (by simp) (by simp), Bool.eq_iff_iff, hflags]
      simp
    · rw [(hstate n).2, (hT.expected n).1, hv]; rfl
    · rw [hw.stream]
      show u.stream.outbound = _
      rw [hwu.stream, hT.stream, hv]
      simp
    · rw [hf _ (by simp) (by simp) (by simp) (by simp) (by simp), hflags]
      simp
    · exact hkeep _ ((hflags _).mpr (.inr (.inr (.inr ⟨rfl, target, ho, hack⟩))))
    · have hiff : lost n ↔ s.loses x n := (hl n).trans (by simp [State.loses])
      rw [hiff, (hstate n).1]
      exact hpstate n
    · have hiff : (∃ n, lost n) ↔ ∃ n, s.loses x n := exists_congr fun n => (hl n).trans (by simp [State.loses])
      rw [hf _ (by simp) (by simp) (by simp) (by simp) (by simp), hflags, hiff]
      simp
    · have ho := ((hc e).mp k).1
      rw [hw.voted]
      show u.barrier.voted = _
      rw [hwu.voted, (hT.voted.1 e ho).1, hv]
    · have ho (e : Epoch) : x.owner ≠ .vote e := fun he => k e ((hc e).mpr ⟨he, rfl⟩)
      rw [hw.voted]
      show u.barrier.voted = _
      rw [hwu.voted, (hT.voted.2 ho).1, hv]
    · have hslot : u.enterBusFault.barrier.slot = p.barrier.slot := by
        rw [hw.slot hst]
        show u.barrier.slot = _
        rw [hbarrier]
        rw [hv]
        exact k.resolve_left (by simp)
      rw [hslot]
      refine ⟨fun e hce hs => ?_, fun hne => ?_⟩
      · rw [(hT.voted.1 e ((hc e).mp hce).1).2, hv]
        exact if_pos hs
      · by_cases ho : ∃ e, x.owner = .vote e
        · obtain ⟨e, he⟩ := ho
          rw [(hT.voted.1 e he).2, hv]
          exact if_neg (hne e ((hc e).mpr ⟨he, rfl⟩))
        · rw [(hT.voted.2 fun e he => ho ⟨e, he⟩).2, hv]
    · rw [hmem, hhello k, hT.hello, if_pos k]
      rfl
    · have hsame : u.members.hello = p.members.hello := by
        rcases hwu.hello with e | ⟨e, -⟩
        · exact e
        · rw [hT.station, hv] at e
          exact absurd e h4
      rw [hmem, hsame, hT.hello, if_neg (by simp [h1, h2, h3]), hv]
    · rw [hv] at hover
      exact hover
    · have hp : p.stripTold := by
        rcases hT.outbox with e | ⟨⟨n, hn⟩, e⟩
        · exact .inl (by rw [e, hv]; exact ho)
        · refine .inl ?_
          rw [e, hv]
          exact (hedge n hn).resolve_left (by simp)
      have hu' : u.busFaulted.stripTold := (hwaits.strips hp).imp id fun k => flagSet_of_raise (s := u) k
      exact ((waits_abandonWaits u.busFaulted).strips hu').resolve_left (not_not.mpr hout)

end Sys2Proof.Machine
end

section
/-! PROOFS. The scan of a row, a write and the watch table, and the copy (O58, O59, O60). -/

namespace Sys2Proof.Machine

variable {s : State}

/-! ### The scan -/

theorem Combine.pixel_eq (c : Combine) (shown overlay : Bool) : c.pixel shown overlay = match c with
    | .none => shown
    | .or => shown || overlay
    | .xor => decide (shown ≠ overlay) := by
  cases c <;> cases shown <;> cases overlay <;> rfl

/-- The output of a row in a mode that selects rows (R149, R151, R152, R153). -/
theorem formRow_driven (h : s.port.display.mode ≠ .off) (r : Nat) : s.formRow r = .driven r
    ((List.range Config.tileColumns).map fun c => s.port.display.mode.lit
      (s.port.display.combine.pixel (s.shownPlane.pixel c r) (s.port.overlay.pixel c r))) (17 + s.port.display.contrast) := by
  unfold State.formRow
  dsimp only
  cases hm : s.port.display.mode with
  | off => exact absurd hm h
  | normal | reverse | allOn => rfl

/-- Settles O60. -/
theorem rowIsFormedFromBothPlanes : Obligations.RowIsFormedFromBothPlanes := by
  intro s r hh hr
  have hrow : exec .rowEnd s = .next s.endRow := by simp only [exec, execRowEnd, whenRunning, hh, Bool.false_eq_true, if_false]
  have hend : s.endRow = { s with
      scan := { row := r, timer := some (s.scan.timer.getD 0 - 1000), out := s.formRow r }
      events := { s.events with
        flags := if s.scan.row < 47 then s.events.flags else s.events.flags ||| Event.frame.bit } } := by
    unfold State.endRow
    rw [hr]
    by_cases hlast : s.scan.row < 47
    · simp only [hlast, if_true]
      rfl
    · simp only [hlast, if_false]
      rfl
  refine ⟨s.endRow, hrow, by rw [hend], fun hoff => ?_, fun hon => ?_⟩
  · rw [hend]
    simp only [State.formRow, hoff]
  · rw [hend]
    refine ⟨_, formRow_driven hon r, by simp [Config.tileColumns], fun c hc p hp => ?_⟩
    have hpixel : s.port.display.combine.pixel (s.shownPlane.pixel c r) (s.port.overlay.pixel c r) = p :=
      (Combine.pixel_eq _ _ _).trans hp.symm
    rw [List.getElem?_map, List.getElem?_range (show c < Config.tileColumns from hc), Option.map_some, hpixel]
    cases hm : s.port.display.mode with
    | off => exact absurd hm hon
    | normal | reverse | allOn => rfl

/-! ### One write -/

/-- The next write is made, and what follows it is the engine's work (R26, R27, R137, R140). -/
theorem drawNext_works {p : PlaneWrite} {id : Station × Byte} (h : s.nextWrite = some (p, id)) :
    Works (s.drawWrite p id).countWrite s.drawNext := by
  unfold State.nextWrite at h
  unfold State.drawNext
  split at h
  · rename_i happly
    rw [if_pos happly]
    cases hx : s.edge.shift with
    | some x =>
      rw [hx] at h
      cases hs : x.step with
      | capture | await => simp [hs] at h
      | move =>
        simp only [hs, Option.some.injEq, Prod.mk.injEq] at h
        obtain ⟨rfl, rfl⟩ := h
        simp only [hs, State.drawMove]
        split
        · exact works_decideFill _ _
        · exact Works.refl _
      | fill =>
        simp only [hs, Option.some.injEq, Prod.mk.injEq] at h
        obtain ⟨rfl, rfl⟩ := h
        simp only [hs, State.drawFill]
        split
        · exact works_finishRecord _
        · exact Works.refl _
    | none =>
      rw [hx] at h
      cases hi : s.stream.inbound with
      | nil => simp [hi] at h
      | cons r rest =>
        simp only [hi, Option.bind_eq_some_iff, Option.map_eq_some_iff, Prod.mk.injEq] at h
        obtain ⟨op, hop, w, hw, rfl, rfl⟩ := h
        simp only [State.drawPixel, hop, hw]
        split
        · exact works_finishRecord _
        · exact Works.refl _
  · cases h

theorem hitBy_iff (w : WatchEntry) (g : Straps) (p : PlaneWrite) : w.hitBy g p = true ↔ w.enabled = true ∧
    ∃ i, i < 8 ∧ p.mask.getLsbD i = true ∧
      w.x0 ≤ 144 * (g.n.val % g.w) + p.address % 144 ∧ 144 * (g.n.val % g.w) + p.address % 144 ≤ w.x1 ∧
      w.y0 ≤ 48 * (g.n.val / g.w) + 8 * (p.address / 144) + i ∧ 48 * (g.n.val / g.w) + 8 * (p.address / 144) + i ≤ w.y1 := by
  simp only [WatchEntry.hitBy, Bool.and_eq_true, List.any_eq_true, List.mem_range, WatchEntry.holds, decide_eq_true_iff]
  rfl

theorem plane_drawWrite (s : State) (p : PlaneWrite) (id : Station × Byte) :
    (s.drawWrite p id).countWrite.plane s.barrier.shown.other = s.drawPlane.apply p ∧
      (s.drawWrite p id).countWrite.plane s.barrier.shown = s.shownPlane := by
  refine ⟨?_, (draws_drawWrite s p id).shownPlane⟩
  rw [drawWrite_eq, raiseIf_eq]
  have h := plane_setPlane s s.barrier.shown.other s.barrier.shown.other (s.drawPlane.apply p)
  rw [if_pos rfl] at h
  exact (plane_congr (by rfl) (by rfl) _).trans h

/-- Settles O58. -/
theorem writeLandsAndIsWatched : Obligations.WriteLandsAndIsWatched := by
  intro s p o q hh hnext hwf ha
  have hrow : exec .drawPlaneWrite s = .next s.drawNext := by
    simp only [exec, execDrawPlaneWrite, whenRunning, hh, Bool.false_eq_true, if_false]
  obtain ⟨u, hu⟩ : ∃ u, u = (s.drawWrite p (o, q)).countWrite := ⟨_, rfl⟩
  have hw : Works u s.drawNext := hu ▸ drawNext_works hnext
  have hplanes := plane_drawWrite s p (o, q)
  rw [← hu] at hplanes
  obtain ⟨hdraw, hshown⟩ := hplanes
  have hplane (n : PlaneName) : s.drawNext.plane n = u.plane n := plane_congr hw.keeps.planeA hw.keeps.planeB n
  have hwatch : s.drawNext.watch = s.watch.map fun w => w.present s.straps p (o, q) := by
    rw [hw.keeps.watch, hu, drawWrite_eq, raiseIf_eq]
    rfl
  have hflag : s.drawNext.flagSet .watch = (s.flagSet .watch || s.watch.any fun w => w.hitBy s.straps p && w.firstHit.isNone) := by
    have hf : u.flagSet .watch = (s.drawWrite p (o, q)).flagSet .watch := by rw [hu]; rfl
    rw [hw.flags _ (by simp) (by simp) (by simp) (by simp), hf, drawWrite_eq, flagSet_raiseIf, decide_eq_true rfl, Bool.and_true]
    exact congrArg (· || _) (flagSet_congr (by simp) _)
  refine ⟨s.drawNext, hrow, fun a => ?_, (hplane _).trans hshown, by rw [hwatch, List.length_map], fun hit hhit => ?_⟩
  · rw [hplane, hdraw, Memory.read_apply _ _ _ hwf ha]
    by_cases hap : a = p.address
    · rw [if_pos hap, if_pos hap.symm]
      rfl
    · rw [if_neg hap, if_neg (Ne.symm hap)]
  · have hcond (w : WatchEntry) : (w.hitBy s.straps p && w.firstHit.isNone) = true ↔ hit w := by
      rw [Bool.and_eq_true, hitBy_iff, Option.isNone_iff_eq_none, hhit]
      tauto
    refine ⟨?_, fun e w hw => ⟨fun k => ?_, fun k => ?_⟩⟩
    · rw [hflag, Bool.or_eq_true, List.any_eq_true]
      simp only [hcond]
    · rw [hwatch, List.getElem?_map, hw, Option.map_some, WatchEntry.present, if_pos ((hcond w).mpr k)]
    · rw [hwatch, List.getElem?_map, hw, Option.map_some, WatchEntry.present, if_neg ((hcond w).not.mpr k)]

/-! ### The copy -/

/-- The bytes from a place on copied from one plane to another, in plane order (R7, R124). -/
def Memory.copyFrom (source : Memory) : Nat → Nat → Memory → Memory
  | 0, _, m => m
  | n + 1, i, m => copyFrom source n (i + 1) (m.write i (source.read i))

theorem copyFrom_wf (source : Memory) (n i : Nat) (m : Memory) (h : m.wf = true) : (source.copyFrom n i m).wf = true := by
  induction n generalizing i m with
  | zero => exact h
  | succ n ih => exact ih _ _ (Memory.write_wf m _ _ h)

theorem read_copyFrom (source : Memory) (n i : Nat) (m : Memory) (h : m.wf = true) (hn : i + n ≤ Config.planeBytes) (a : Nat) :
    (source.copyFrom n i m).read a = if i ≤ a ∧ a < i + n then source.read a else m.read a := by
  induction n generalizing i m with
  | zero => rw [if_neg (by omega)]; rfl
  | succ n ih =>
    rw [Memory.copyFrom, ih _ _ (Memory.write_wf m _ _ h) (by omega), Memory.read_write m _ _ _ h (by omega)]
    by_cases hi : i = a
    · subst hi
      rw [if_neg (by omega), if_pos rfl, if_pos (by omega)]
    · rw [if_neg hi]
      exact if_congr (by omega) rfl rfl

theorem read_beyond (m : Memory) (low a : Nat) (h : Memory.wfAbove low m = true) (ha : Config.planeBytes ≤ a) : m.read a = 0 := by
  induction m generalizing low with
  | nil => rfl
  | cons c m ih =>
    obtain ⟨b, v⟩ := c
    simp only [Memory.wfAbove, Bool.and_eq_true, decide_eq_true_eq] at h
    rw [Memory.read_cons, if_neg (by omega)]
    exact ih _ h.2

theorem drawPlane_setDrawPlane (s : State) (m : Memory) : (s.setDrawPlane m).drawPlane = m := by
  simp [State.drawPlane, State.setDrawPlane]

theorem other_ne (p : PlaneName) : p ≠ p.other := by cases p <;> simp [PlaneName.other]

theorem shownPlane_setDrawPlane (s : State) (m : Memory) : (s.setDrawPlane m).shownPlane = s.shownPlane := by
  simp [State.shownPlane, State.setDrawPlane, plane_setPlane, other_ne]

theorem setDrawPlane_again (s : State) (m m' : Memory) (i : Nat) : State.setDrawPlane { s.setDrawPlane m with
    raster := { (s.setDrawPlane m).raster with issued := i } } m' =
    { s.setDrawPlane m' with raster := { (s.setDrawPlane m').raster with issued := i } } := by
  cases h : s.barrier.shown <;> simp [State.setDrawPlane, State.setPlane, PlaneName.other, h]

/-- A run of copy writes. -/
theorem copyWrites_eq (n : Nat) (s : State) (m : Memory) (i : Nat) :
    State.copyWrites n { s.setDrawPlane m with raster := { (s.setDrawPlane m).raster with issued := i } } =
      { s.setDrawPlane (s.shownPlane.copyFrom n i m) with
        raster := { (s.setDrawPlane (s.shownPlane.copyFrom n i m)).raster with issued := i + n } } := by
  induction n generalizing i m with
  | zero => rfl
  | succ n ih =>
    have hone : State.copyWrite { s.setDrawPlane m with raster := { (s.setDrawPlane m).raster with issued := i } } =
        { s.setDrawPlane (m.write i (s.shownPlane.read i)) with
          raster := { (s.setDrawPlane (m.write i (s.shownPlane.read i))).raster with issued := i + 1 } } := by
      have hd : State.drawPlane { s.setDrawPlane m with raster := { (s.setDrawPlane m).raster with issued := i } } = m :=
        (plane_congr rfl rfl _).trans (drawPlane_setDrawPlane s m)
      have hsh : State.shownPlane { s.setDrawPlane m with raster := { (s.setDrawPlane m).raster with issued := i } } = s.shownPlane :=
        (plane_congr rfl rfl _).trans (shownPlane_setDrawPlane s m)
      unfold State.copyWrite
      rw [hd, hsh, setDrawPlane_again]
    rw [State.copyWrites, hone, ih, Memory.copyFrom, Nat.add_right_comm]
    rfl

/-- Settles O59. -/
theorem copyMakesThePlanesEqual : Obligations.CopyMakesThePlanesEqual := by
  intro s r rest hh heng hin ha hb hdone v hv
  have hwf (p : PlaneName) : (s.plane p).wf = true := by cases p; exact ha; exact hb
  have hself : s = { s.setDrawPlane s.drawPlane with raster := { (s.setDrawPlane s.drawPlane).raster with issued := s.raster.issued } } := by
    cases h : s.barrier.shown <;> simp [State.setDrawPlane, State.drawPlane, State.setPlane, State.plane, PlaneName.other, h]
  have hshown : s.shownPlane.wf = true := hwf _
  have hdraw : s.drawPlane.wf = true := hwf _
  have hcopied : s.shownPlane.copyFrom (Config.planeBytes - s.raster.issued) s.raster.issued s.drawPlane = s.shownPlane := by
    refine Memory.ext_of_read _ _ 0 0 (copyFrom_wf _ _ _ _ hdraw) hshown fun a => ?_
    by_cases hout : Config.planeBytes ≤ a
    · rw [read_beyond _ 0 a (copyFrom_wf _ _ _ _ hdraw) hout, read_beyond _ 0 a hshown hout]
    · by_cases hrun : s.raster.issued ≤ Config.planeBytes
      · rw [read_copyFrom _ _ _ _ hdraw (by omega)]
        split
        · rfl
        · exact hdone a (by omega)
      · rw [Nat.sub_eq_zero_of_le (by omega)]
        exact hdone a (by omega)
  have hrun : State.copyWrites (Config.planeBytes - s.raster.issued) s = { s.setDrawPlane s.shownPlane with
      raster := { (s.setDrawPlane s.shownPlane).raster with issued := s.raster.issued + (Config.planeBytes - s.raster.issued) } } := by
    have h := copyWrites_eq (Config.planeBytes - s.raster.issued) s s.drawPlane s.raster.issued
    rw [← hself, hcopied] at h
    exact h
  have hboth : (State.copyWrites (Config.planeBytes - s.raster.issued) s).completed r rest = v.completed r rest := by
    rw [hrun, hv]
    cases h : s.barrier.shown <;>
      simp [State.completed, State.setDrawPlane, State.setPlane, State.shownPlane, State.plane, PlaneName.other, h]
  have hrow : exec .copyComplete s = .next s.finishCopy := by
    simp only [exec, execCopyComplete, whenRunning, hh, Bool.false_eq_true, if_false]
  have hhead : (State.copyWrites (Config.planeBytes - s.raster.issued) s).stream.inbound = r :: rest := by
    rw [(draws_copyWrites _ s).stream]
    exact hin
  rw [hrow, State.finishCopy, if_pos heng, State.finishRecord, complete_eq hhead, hboth]

end Sys2Proof.Machine
end

section
/-! PROOFS. Runs of writes, and the move and fill of a SHIFT (O56, O57). -/

namespace Sys2Proof.Machine

/-! ### A plane after a run of writes -/

/-- A plane after the first writes of a run, each made on the plane as the writes before it left it (R6, R26). -/
def Memory.written (write : Nat → Memory → PlaneWrite) : Nat → Memory → Memory
  | 0, m => m
  | n + 1, m => (m.written write n).apply (write n (m.written write n))

/-- A run of writes of a plane that sets every bit at most once, to a value that the bits set before do not change. -/
structure Memory.Run (m : Memory) (write : Nat → Memory → PlaneWrite) (count : Nat) : Prop where
  place : ∀ i m', (write i m').address = (write i m).address ∧ (write i m').mask = (write i m).mask
  inside : ∀ i, i < count → (write i m).address < Config.planeBytes
  once : ∀ i j, i < j → j < count → (write i m).address = (write j m).address →
    ∀ b, b < 8 → (write i m).mask.getLsbD b = true → (write j m).mask.getLsbD b = false
  steady : ∀ i, i < count → ∀ m' : Memory,
    (∀ a b, b < 8 → (∀ j, j < i → (write j m).address = a → (write j m).mask.getLsbD b = false) →
      (m'.read a).getLsbD b = (m.read a).getLsbD b) →
    ∀ b, b < 8 → (write i m).mask.getLsbD b = true → (write i m').value.getLsbD b = (write i m).value.getLsbD b

/-- Every bit of a run has its own write's value, and every other bit stays. -/
theorem Memory.Run.bit {m : Memory} {write : Nat → Memory → PlaneWrite} {count : Nat} (h : m.Run write count) (hwf : m.wf = true)
    (n : Nat) (hn : n ≤ count) : (m.written write n).wf = true ∧ ∀ a b, b < 8 →
      (∀ i, i < n → (write i m).address = a → (write i m).mask.getLsbD b = true →
        ((m.written write n).read a).getLsbD b = (write i m).value.getLsbD b) ∧
      ((∀ i, i < n → (write i m).address = a → (write i m).mask.getLsbD b = false) →
        ((m.written write n).read a).getLsbD b = (m.read a).getLsbD b) := by
  induction n with
  | zero => exact ⟨hwf, fun a b _ => ⟨fun i hi => absurd hi (by omega), fun _ => rfl⟩⟩
  | succ n ih =>
    obtain ⟨hwf', ih⟩ := ih (by omega)
    obtain ⟨haddr, hmask⟩ := h.place n (m.written write n)
    refine ⟨Memory.apply_wf _ _ hwf', fun a b hb => ?_⟩
    have hbit : ((m.written write (n + 1)).read a).getLsbD b =
        if (write n m).address = a ∧ (write n m).mask.getLsbD b = true then (write n m).value.getLsbD b
        else ((m.written write n).read a).getLsbD b := by
      rw [Memory.written, Memory.read_apply _ _ _ hwf' (by rw [haddr]; exact h.inside n hn), haddr]
      by_cases ha : (write n m).address = a
      · rw [if_pos ha, PlaneWrite.result_bit _ _ _ hb, hmask]
        by_cases hm : (write n m).mask.getLsbD b = true
        · rw [if_pos hm, if_pos ⟨ha, hm⟩]
          exact h.steady n hn _ (fun a b hb hfree => (ih a b hb).2 hfree) b hb hm
        · rw [if_neg hm, if_neg fun k => hm k.2]
      · rw [if_neg ha, if_neg fun k => ha k.1]
    refine ⟨fun i hi ha hm => ?_, fun hfree => ?_⟩
    · rw [hbit]
      rcases Nat.lt_succ_iff_lt_or_eq.mp hi with hlt | rfl
      · rw [if_neg]
        · exact (ih a b hb).1 i hlt ha hm
        · rintro ⟨ha', hm'⟩
          rw [h.once i n hlt hn (ha.trans ha'.symm) b hb hm] at hm'
          cases hm'
      · rw [if_pos ⟨ha, hm⟩]
    · rw [hbit, if_neg]
      · exact (ih a b hb).2 fun i hi => hfree i (by omega)
      · rintro ⟨ha, hm⟩
        rw [hfree n (by omega) ha] at hm
        cases hm

/-! ### The part after a run of writes -/

variable {s : State}

/-- u is s with writes of the record in progress made: the draw plane holds m, and so many writes are issued. -/
structure State.Drawn (s u : State) (m : Memory) (i : Nat) : Prop where
  same : u = { s with
    raster := { s.raster with planeA := u.raster.planeA, planeB := u.raster.planeB, issued := i }
    watch := u.watch, events := { s.events with flags := u.events.flags } }
  shown : u.shownPlane = s.shownPlane
  draw : u.drawPlane = m
  flags : ∀ e, e ≠ .watch → u.flagSet e = s.flagSet e

theorem drawn_refl (s : State) : s.Drawn s s.drawPlane s.raster.issued := ⟨rfl, rfl, rfl, fun _ _ => rfl⟩

theorem State.Drawn.parts {u : State} {m : Memory} {i : Nat} (h : s.Drawn u m i) : u.held = s.held ∧ u.edge = s.edge ∧
    u.stream = s.stream ∧ u.straps = s.straps ∧ u.raster.engine = s.raster.engine ∧ u.raster.issued = i ∧ u.barrier = s.barrier :=
  ⟨(congrArg State.held h.same).trans rfl, (congrArg State.edge h.same).trans rfl, (congrArg State.stream h.same).trans rfl,
    (congrArg State.straps h.same).trans rfl, (congrArg (·.raster.engine) h.same).trans rfl,
    (congrArg (·.raster.issued) h.same).trans rfl, (congrArg State.barrier h.same).trans rfl⟩

theorem drawn_write {u : State} {m : Memory} {i : Nat} (h : s.Drawn u m i) (p : PlaneWrite) (id : Station × Byte) :
    s.Drawn (u.drawWrite p id).countWrite (m.apply p) (i + 1) := by
  obtain ⟨hheld, hedge, hstream, hstraps, heng, hissued, hbar⟩ := h.parts
  obtain ⟨hdraw, hshown⟩ := plane_drawWrite u p id
  have hbar' : (u.drawWrite p id).countWrite.barrier = u.barrier := (draws_drawWrite u p id).barrier
  refine ⟨?_, ?_, ?_, fun e he => ?_⟩
  · have hu : (u.drawWrite p id).countWrite = { u with
        raster := { u.raster with planeA := (u.drawWrite p id).countWrite.raster.planeA
                                  planeB := (u.drawWrite p id).countWrite.raster.planeB, issued := u.raster.issued + 1 }
        watch := (u.drawWrite p id).countWrite.watch
        events := { u.events with flags := (u.drawWrite p id).countWrite.events.flags } } := by
      rw [drawWrite_eq, raiseIf_eq]
      cases hs : u.barrier.shown <;> simp [State.countWrite, State.setDrawPlane, State.setPlane, PlaneName.other, hs]
    have hbase (a b : Memory) (n : Nat) (w : List WatchEntry) (f : Half) : ({ u with
          raster := { u.raster with planeA := a, planeB := b, issued := n }, watch := w, events := { u.events with flags := f } } : State) =
        { s with
          raster := { s.raster with planeA := a, planeB := b, issued := n }, watch := w, events := { s.events with flags := f } } := by
      rw [h.same]
    have hsame := hu.trans (hbase _ _ _ _ _)
    rw [hissued] at hsame
    exact hsame
  · rw [State.shownPlane, hbar', hshown, h.shown]
  · rw [State.drawPlane, hbar', hdraw, h.draw]
  · have hf : (u.drawWrite p id).countWrite.flagSet e = (u.drawWrite p id).flagSet e := rfl
    rw [hf, drawWrite_eq, flagSet_raiseIf, decide_eq_false he, Bool.and_false, Bool.or_false, ← h.flags e he]
    exact flagSet_congr (by simp) e

theorem exec_drawPlaneWrite (hh : s.held = false) : exec .drawPlaneWrite s = .next s.drawNext := by
  simp only [exec, execDrawPlaneWrite, whenRunning, hh, Bool.false_eq_true, if_false]

/-- A run of DRAW_PLANE_WRITE rows makes the run's writes in their order, and its last one finishes it. -/
theorem afterWrites_run (hh : s.held = false) {count : Nat} (hcount : 0 < count) (write : Nat → Memory → PlaneWrite)
    (id : Station × Byte) (finish : State → State) (h0 : s.raster.issued = 0)
    (hstep : ∀ u m i, s.Drawn u m i → i < count → u.drawNext =
      if count ≤ i + 1 then finish (u.drawWrite (write i m) id).countWrite else (u.drawWrite (write i m) id).countWrite) :
    ∃ v, s.Drawn v (s.drawPlane.written write count) count ∧ State.afterWrites count s = some (finish v) := by
  have hone {u : State} {m : Memory} {i : Nat} (hu : s.Drawn u m i) (n : Nat) :
      State.afterWrites (n + 1) u = State.afterWrites n u.drawNext := by
    rw [State.afterWrites, exec_drawPlaneWrite (hu.parts.1.trans hh)]
  have key (k : Nat) : ∀ i u, s.Drawn u (s.drawPlane.written write i) i → i + (k + 1) = count →
      ∃ v, s.Drawn v (s.drawPlane.written write count) count ∧ State.afterWrites (k + 1) u = some (finish v) := by
    induction k with
    | zero =>
      intro i u hu hi
      have hlast := hstep u _ i hu (by omega)
      rw [if_pos (by omega)] at hlast
      subst hi
      exact ⟨_, drawn_write hu (write i (s.drawPlane.written write i)) id, by rw [hone hu, hlast]; rfl⟩
    | succ k ih =>
      intro i u hu hi
      have hnext := hstep u _ i hu (by omega)
      rw [if_neg (by omega)] at hnext
      obtain ⟨v, hv, hrun⟩ := ih (i + 1) _ (drawn_write hu (write i (s.drawPlane.written write i)) id) (by omega)
      exact ⟨v, hv, by rw [hone hu, hnext, hrun]⟩
  obtain ⟨k, rfl⟩ : ∃ k, count = k + 1 := ⟨count - 1, by omega⟩
  have h := drawn_refl s
  rw [h0] at h
  exact key k 0 s h (by omega)

/-- A run's pixel: its write's value where a write of the run sets it, and its old one elsewhere. -/
theorem Memory.Run.pixel {m : Memory} {write : Nat → Memory → PlaneWrite} {count : Nat} (h : m.Run write count) (hwf : m.wf = true)
    {c row : Nat} {painted : Prop} [Decidable painted] {v : Bool} (i : Nat)
    (hset : painted → i < count ∧ (write i m).address = byteAddress (row / 8) c ∧ (write i m).mask.getLsbD (row % 8) = true ∧
      (write i m).value.getLsbD (row % 8) = v)
    (hkept : ¬ painted → ∀ j, j < count → (write j m).address = byteAddress (row / 8) c →
      (write j m).mask.getLsbD (row % 8) = false) :
    (m.written write count).pixel c row = if painted then v else m.pixel c row := by
  obtain ⟨hwrite, hstay⟩ := (h.bit hwf count (Nat.le_refl _)).2 (byteAddress (row / 8) c) (row % 8) (Nat.mod_lt _ (by omega))
  split
  · next hp =>
    obtain ⟨hi, ha, hm, hv⟩ := hset hp
    exact (hwrite i hi ha hm).trans hv
  · next hp => exact hstay (hkept hp)

/-- The engine's work leaves the planes as the run's last write left them. -/
theorem drawn_finished {u v t : State} {m : Memory} {i : Nat} (h : s.Drawn v m i) (hu : Keeps v u) (ht : t = u) :
    t.plane s.barrier.shown.other = m ∧ t.plane s.barrier.shown = s.shownPlane := by
  subst ht
  have hbar : v.barrier = s.barrier := h.parts.2.2.2.2.2.2
  refine ⟨(plane_congr hu.planeA hu.planeB _).trans ?_, (plane_congr hu.planeA hu.planeB _).trans ?_⟩
  · have hd := h.draw
    rwa [State.drawPlane, hbar] at hd
  · have hd := h.shown
    rwa [State.shownPlane, hbar] at hd

/-! ### The fill of a SHIFT -/

theorem byteAddress_inj {b b' c c' : Nat} (hc : c < 144) (hc' : c' < 144) (h : byteAddress b c = byteAddress b' c') : b = b' ∧ c = c' := by
  simp only [byteAddress, Config.tileColumns] at h
  omega

theorem fullMask_bit {b : Nat} (hb : b < 8) : (0xFF : Byte).getLsbD b = true := by
  have : (0xFF : Byte) = BitVec.allOnes 8 := rfl
  rw [this, BitVec.getLsbD_allOnes, decide_eq_true hb]

theorem upperMask_bit {k : Nat} (hk : k ≤ 8) {b : Nat} (hb : b < 8) : (~~~(stripMask k)).getLsbD b = decide (k ≤ b) := by
  rw [BitVec.getLsbD_not, stripMask_bit hk, decide_eq_true hb, Bool.true_and, ← decide_not]
  exact decide_eq_decide.mpr (by omega)

/-- The byte writes of a fill set different bits, and their values are the strip's (R140). -/
theorem run_fill (m : Memory) (d : Direction) {k : Nat} (hk : k ≤ 8) (data : List Byte) :
    m.Run (fun i _ => fillWrite d k data i) (fillWrites d k) where
  place _ _ := ⟨rfl, rfl⟩
  inside i hi := by
    cases d <;> simp only [fillWrites, Direction.horizontal, if_true, Bool.false_eq_true, if_false, Config.tileColumns] at hi <;>
      simp only [fillWrite, byteAddress, Config.tileColumns, Config.planeBytes] <;> omega
  once i j hij hj ha := by
    exfalso
    cases d <;> simp only [fillWrites, Direction.horizontal, if_true, Bool.false_eq_true, if_false, Config.tileColumns] at hj <;>
      simp only [fillWrite, byteAddress, Config.tileColumns] at ha <;> omega
  steady _ _ _ _ _ _ _ := rfl

theorem fill_pixel (m : Memory) (hwf : m.wf = true) (d : Direction) {k : Nat} (h1 : 1 ≤ k) (hk : k ≤ 8) (data : List Byte)
    (strip : Nat → Byte) (hstrip : ∀ i, strip i = (data[i]?).getD 0) (c row : Nat) (hc : c < 144) (hr : row < 48) :
    (m.written (fun i _ => fillWrite d k data i) (fillWrites d k)).pixel c row = match d with
      | .left => if 144 ≤ c + k then (strip (6 * (c + k - 144) + row / 8)).getLsbD (row % 8) else m.pixel c row
      | .right => if c < k then (strip (6 * c + row / 8)).getLsbD (row % 8) else m.pixel c row
      | .up => if 48 ≤ row + k then (strip c).getLsbD (row + k - 48) else m.pixel c row
      | .down => if row < k then (strip c).getLsbD row else m.pixel c row := by
  have hrun := run_fill m d hk data
  have hb : row % 8 < 8 := Nat.mod_lt _ (by omega)
  cases d with
  | left =>
    refine hrun.pixel hwf (6 * (c + k - 144) + row / 8) (fun hp => ?_) fun hp j hj ha => ?_
    · refine ⟨?_, ?_, fullMask_bit hb, by rw [hstrip]; rfl⟩
      · simp only [fillWrites, Direction.horizontal, if_true]; omega
      · simp only [fillWrite, byteAddress, Config.tileColumns]; omega
    · simp only [fillWrites, Direction.horizontal, if_true] at hj
      obtain ⟨-, hcol⟩ := byteAddress_inj (by omega) hc ha
      omega
  | right =>
    refine hrun.pixel hwf (6 * c + row / 8) (fun hp => ?_) fun hp j hj ha => ?_
    · refine ⟨?_, ?_, fullMask_bit hb, by rw [hstrip]; rfl⟩
      · simp only [fillWrites, Direction.horizontal, if_true]; omega
      · simp only [fillWrite, byteAddress, Config.tileColumns]; omega
    · simp only [fillWrites, Direction.horizontal, if_true] at hj
      obtain ⟨-, hcol⟩ := byteAddress_inj (by omega) hc ha
      omega
  | up =>
    refine hrun.pixel hwf c (fun hp => ⟨hc, ?_, ?_, ?_⟩) fun hp j hj ha => ?_
    · simp only [fillWrite, byteAddress, Config.tileColumns]; omega
    · simp only [fillWrite, upperMask_bit (show 8 - k ≤ 8 by omega) hb, decide_eq_true_eq]; omega
    · have hbit : (row % 8) - (8 - k) = row + k - 48 := by omega
      simp only [fillWrite, BitVec.getLsbD_shiftLeft, hb, hbit, hstrip, decide_true, Bool.true_and,
        decide_eq_false (show ¬ row % 8 < 8 - k by omega), Bool.not_false]
    · simp only [fillWrites, Direction.horizontal, Bool.false_eq_true, if_false, Config.tileColumns] at hj
      simp only [fillWrite, byteAddress, Config.tileColumns] at ha
      simp only [fillWrite, upperMask_bit (show 8 - k ≤ 8 by omega) hb, decide_eq_false_iff_not]
      omega
  | down =>
    refine hrun.pixel hwf c (fun hp => ⟨hc, ?_, ?_, ?_⟩) fun hp j hj ha => ?_
    · simp only [fillWrite, byteAddress, Config.tileColumns]; omega
    · simp only [fillWrite, stripMask_bit hk, decide_eq_true_eq]; omega
    · simp only [fillWrite, hstrip, Nat.mod_eq_of_lt (show row < 8 by omega)]
    · simp only [fillWrites, Direction.horizontal, Bool.false_eq_true, if_false, Config.tileColumns] at hj
      simp only [fillWrite, byteAddress, Config.tileColumns] at ha
      simp only [fillWrite, stripMask_bit hk, decide_eq_false_iff_not]
      omega

theorem fillWrites_pos (d : Direction) {k : Nat} (h : 1 ≤ k) : 0 < fillWrites d k := by
  cases d <;> simp only [fillWrites, Direction.horizontal, if_true, Bool.false_eq_true, if_false, Config.tileColumns] <;> omega

/-- Settles O57: the run of the fill's writes, then the completion. -/
theorem shiftFillsTheVacatedPixels : Obligations.ShiftFillsTheVacatedPixels := by
  intro s x r rest hh heng hx hstep h1 h8 hissued hwf hin
  obtain ⟨v, hv, hrun⟩ := afterWrites_run hh (fillWrites_pos x.direction h1)
    (fun i _ => fillWrite x.direction x.k (x.strip.getD []) i) (x.originator, x.seq) State.finishRecord hissued (by
      intro u m i hu hi
      obtain ⟨-, hedge, -, -, huEng, huIssued, -⟩ := hu.parts
      have hx' : u.edge.shift = some x := by rw [hedge]; exact hx
      unfold State.drawNext
      rw [if_pos (huEng.trans heng), hx']
      simp only [hstep, State.drawFill, huIssued]
      refine if_congr ?_ rfl rfl
      rw [show (u.drawWrite (fillWrite x.direction x.k (x.strip.getD []) i) (x.originator, x.seq)).countWrite.raster.issued = i + 1 from
        ((drawn_write hu _ _).parts.2.2.2.2.2.1)])
  have hin' : v.stream.inbound = r :: rest := by rw [hv.parts.2.2.1]; exact hin
  have hfin : v.finishRecord = (v.completed r rest).settle := by rw [State.finishRecord, complete_eq hin']
  refine ⟨_, v, hrun, hfin, ?_, ?_, ?_⟩
  · refine hv.same.trans ?_
    rw [hv.parts.2.2.2.2.2.1]
  · exact hv.shown
  · intro c row hc hr strip hstrip
    have hp := fill_pixel s.drawPlane hwf x.direction h1 h8 (x.strip.getD []) strip hstrip c row hc hr
    rw [(drawn_finished hv (keeps_finishRecord v) rfl).1]
    cases hd : x.direction <;> rw [hd] at hp <;> exact hp

end Sys2Proof.Machine
end

section
/-! PROOFS. The move of a SHIFT and the fill decision (O56). -/

namespace Sys2Proof.Machine

variable {s : State}

/-! ### The writes of a move -/

/-- A byte that no write so far has touched is as it was. -/
theorem read_untouched {m m' : Memory} {write : Nat → Memory → PlaneWrite} {i a : Nat}
    (h : ∀ a b, b < 8 → (∀ j, j < i → (write j m).address = a → (write j m).mask.getLsbD b = false) →
      (m'.read a).getLsbD b = (m.read a).getLsbD b)
    (ha : ∀ j, j < i → (write j m).address ≠ a) : m'.read a = m.read a :=
  BitVec.eq_of_getLsbD_eq fun b hb => h a b hb fun j hj k => absurd k (ha j hj)

theorem moveBands_le (k : Nat) : 0 < moveBands k ∧ moveBands k ≤ 6 ∧ (k < 8 → moveBands k = 6) ∧ (8 ≤ k → moveBands k = 5) := by
  unfold moveBands
  split <;> omega

/-- The place of a band's write of a column, and the column and band of a place (R137). -/
theorem bandPlace {n c b : Nat} (hb : b < n) : (c * n + b) / n = c ∧ (c * n + b) % n = b := by
  constructor
  · rw [Nat.mul_comm, Nat.mul_add_div (by omega), Nat.div_eq_of_lt hb, Nat.add_zero]
  · rw [Nat.mul_comm, Nat.mul_add_mod, Nat.mod_eq_of_lt hb]

theorem sameBandPlace {n i j : Nat} (hd : i / n = j / n) (hm : i % n = j % n) : i = j := by
  rw [← Nat.div_add_mod i n, ← Nat.div_add_mod j n, hd, hm]

theorem moveWrites_horizontal {d : Direction} (hd : d.horizontal = true) (k : Nat) : moveWrites d k = (144 - k) * 6 := by
  rw [moveWrites, if_pos hd]
  rfl

theorem moveWrites_vertical {d : Direction} (hd : d.horizontal = false) (k : Nat) : moveWrites d k = 144 * moveBands k := by
  rw [moveWrites, if_neg (by rw [hd]; exact Bool.false_ne_true)]
  rfl

theorem column_of_place {n i : Nat} (hn : 0 < n) (hi : i < 144 * n) : i / n < 144 ∧ i % n < n :=
  ⟨Nat.div_lt_of_lt_mul (by rwa [Nat.mul_comm] at hi), Nat.mod_lt _ hn⟩

/-- No earlier write of a move is of the same byte. -/
theorem move_address_inj (d : Direction) {k : Nat} (m : Memory) {i j : Nat} (hi : i < moveWrites d k) (hj : j < moveWrites d k)
    (h : (moveWrite d k m i).address = (moveWrite d k m j).address) : i = j := by
  obtain ⟨hpos, hle, -, -⟩ := moveBands_le k
  cases d with
  | left =>
    rw [moveWrites_horizontal rfl] at hi hj
    obtain ⟨hb, hc⟩ := byteAddress_inj (by omega) (by omega) h
    omega
  | right =>
    rw [moveWrites_horizontal rfl] at hi hj
    obtain ⟨hb, hc⟩ := byteAddress_inj (by omega) (by omega) h
    omega
  | up =>
    rw [moveWrites_vertical rfl] at hi hj
    obtain ⟨hb, hc⟩ := byteAddress_inj (column_of_place hpos hi).1 (column_of_place hpos hj).1 h
    exact sameBandPlace hc hb
  | down =>
    rw [moveWrites_vertical rfl] at hi hj
    obtain ⟨hb, hc⟩ := byteAddress_inj (column_of_place hpos hi).1 (column_of_place hpos hj).1 h
    have hmi := (column_of_place hpos hi).2
    have hmj := (column_of_place hpos hj).2
    exact sameBandPlace hc (by omega)

/-- A vertical move has written no later band of its column, and no band beyond. -/
theorem up_unwritten {k : Nat} (m : Memory) {i j b : Nat} (hi : i < 144 * moveBands k) (hj : j < i) (hb : i % moveBands k ≤ b) :
    (moveWrite .up k m j).address ≠ byteAddress b (i / moveBands k) := by
  intro h
  obtain ⟨hpos, -, -, -⟩ := moveBands_le k
  obtain ⟨hband, hcol⟩ := byteAddress_inj (column_of_place hpos (by omega)).1 (column_of_place hpos hi).1 h
  have hdi := Nat.div_add_mod i (moveBands k)
  have hdj := Nat.div_add_mod j (moveBands k)
  rw [hcol] at hdj
  omega

theorem down_unwritten {k : Nat} (m : Memory) {i j b : Nat} (hi : i < 144 * moveBands k) (hj : j < i) (hb : b ≤ 5 - i % moveBands k) :
    (moveWrite .down k m j).address ≠ byteAddress b (i / moveBands k) := by
  intro h
  obtain ⟨hpos, hle, -, -⟩ := moveBands_le k
  obtain ⟨hband, hcol⟩ := byteAddress_inj (column_of_place hpos (by omega)).1 (column_of_place hpos hi).1 h
  have hmi := (column_of_place hpos hi).2
  have hmj := (column_of_place hpos (show j < 144 * moveBands k by omega)).2
  have hdi := Nat.div_add_mod i (moveBands k)
  have hdj := Nat.div_add_mod j (moveBands k)
  rw [hcol] at hdj
  omega

/-- The writes of a move set different bytes, and each reads bytes that no write before it has touched (R137). -/
theorem run_move (m : Memory) (d : Direction) {k : Nat} (h1 : 1 ≤ k) :
    m.Run (fun i m => moveWrite d k m i) (moveWrites d k) where
  place i m' := by cases d <;> exact ⟨rfl, rfl⟩
  inside i hi := by
    obtain ⟨hpos, hle, -, -⟩ := moveBands_le k
    cases d with
    | left | right =>
      rw [moveWrites_horizontal rfl] at hi
      simp only [moveWrite, byteAddress, Config.tileColumns, Config.planeBytes]
      omega
    | up | down =>
      rw [moveWrites_vertical rfl] at hi
      have hc := column_of_place hpos hi
      simp only [moveWrite, byteAddress, Config.tileColumns, Config.planeBytes]
      omega
  once i j hij hj ha := absurd (move_address_inj d m (by omega) hj ha) (by omega)
  steady i hi m' h b _ _ := by
    have hread {a : Nat} (ha : ∀ j, j < i → (moveWrite d k m j).address ≠ a) : m'.read a = m.read a :=
      read_untouched (write := fun i m => moveWrite d k m i) h ha
    refine congrArg (·.getLsbD b) (?_ : (moveWrite d k m' i).value = (moveWrite d k m i).value)
    cases d with
    | left =>
      rw [moveWrites_horizontal rfl] at hi
      exact hread fun j hj k => by
        obtain ⟨-, hc⟩ := byteAddress_inj (by omega) (by omega) k
        omega
    | right =>
      rw [moveWrites_horizontal rfl] at hi
      exact hread fun j hj k => by
        obtain ⟨-, hc⟩ := byteAddress_inj (by omega) (by omega) k
        omega
    | up =>
      rw [moveWrites_vertical rfl] at hi
      simp only [moveWrite]
      rw [hread fun j hj => up_unwritten m hi hj (Nat.le_refl _), hread fun j hj => up_unwritten m hi hj (Nat.le_succ _)]
    | down =>
      rw [moveWrites_vertical rfl] at hi
      simp only [moveWrite]
      rw [hread fun j hj => down_unwritten m hi hj (Nat.le_refl _), hread fun j hj => down_unwritten m hi hj (Nat.sub_le _ _)]

/-- The bits of a byte of an upward move: the byte's own, k along, and then the first of the byte below (R18). -/
theorem up_bit {k : Nat} (hk : k ≤ 8) (v w : Byte) {b : Nat} (hb : b < 8) :
    (v >>> k ||| w <<< (8 - k)).getLsbD b = if b + k < 8 then v.getLsbD (b + k) else w.getLsbD (b + k - 8) := by
  rw [BitVec.getLsbD_or, BitVec.getLsbD_ushiftRight, BitVec.getLsbD_shiftLeft, decide_eq_true hb, Nat.add_comm k b]
  split
  · next h => simp [show b < 8 - k by omega]
  · next h => simp [BitVec.getLsbD_of_ge v (b + k) (by omega), show ¬ b < 8 - k by omega, show b - (8 - k) = b + k - 8 by omega]

/-- The bits of a byte of a downward move: the last of the byte above, and then the byte's own, k along (R18). -/
theorem down_bit {k : Nat} (hk : k ≤ 8) (v w : Byte) {b : Nat} (hb : b < 8) :
    (v <<< k ||| w >>> (8 - k)).getLsbD b = if k ≤ b then v.getLsbD (b - k) else w.getLsbD (b + 8 - k) := by
  rw [BitVec.getLsbD_or, BitVec.getLsbD_ushiftRight, BitVec.getLsbD_shiftLeft, decide_eq_true hb]
  split
  · next h => simp [BitVec.getLsbD_of_ge w (8 - k + b) (by omega), show ¬ b < k by omega]
  · next h => simp [show b < k by omega, show 8 - k + b = b + 8 - k by omega]

/-- The pixels of a vertical move's new content, from the row k along (R5, R18). -/
theorem up_pixel (m : Memory) {k c row : Nat} (hk : k ≤ 8) :
    (m.read (byteAddress (row / 8) c) >>> k ||| m.read (byteAddress (row / 8 + 1) c) <<< (8 - k)).getLsbD (row % 8) =
      m.pixel c (row + k) := by
  rw [up_bit hk _ _ (Nat.mod_lt _ (by omega)), Memory.pixel]
  split
  · rw [show (row + k) / 8 = row / 8 by omega, show (row + k) % 8 = row % 8 + k by omega]
  · rw [show (row + k) / 8 = row / 8 + 1 by omega, show (row + k) % 8 = row % 8 + k - 8 by omega]

theorem down_pixel (m : Memory) {k c row : Nat} (hk : k ≤ 8) (hr : k ≤ row) :
    (m.read (byteAddress (row / 8) c) <<< k ||| m.read (byteAddress (row / 8 - 1) c) >>> (8 - k)).getLsbD (row % 8) =
      m.pixel c (row - k) := by
  rw [down_bit hk _ _ (Nat.mod_lt _ (by omega)), Memory.pixel]
  split
  · rw [show (row - k) / 8 = row / 8 by omega, show (row - k) % 8 = row % 8 - k by omega]
  · rw [show (row - k) / 8 = row / 8 - 1 by omega, show (row - k) % 8 = row % 8 + 8 - k by omega]

theorem place_lt {most n c b : Nat} (hc : c < most) (hb : b < n) : c * n + b < most * n := by
  have h : c * n + n ≤ most * n := by
    rw [← Nat.succ_mul]
    exact Nat.mul_le_mul_right n hc
  omega

theorem move_pixel (m : Memory) (hwf : m.wf = true) (d : Direction) {k : Nat} (h1 : 1 ≤ k) (hk : k ≤ 8) (c row : Nat)
    (hc : c < 144) (hr : row < 48) :
    (m.written (fun i m => moveWrite d k m i) (moveWrites d k)).pixel c row = match d with
      | .left => if c + k < 144 then m.pixel (c + k) row else m.pixel c row
      | .right => if k ≤ c then m.pixel (c - k) row else m.pixel c row
      | .up => if row + k < 48 then m.pixel c (row + k) else m.pixel c row
      | .down => if k ≤ row then m.pixel c (row - k) else m.pixel c row := by
  have hrun := run_move m d h1
  have hb : row % 8 < 8 := Nat.mod_lt _ (by omega)
  obtain ⟨hpos, -, hsix, hfive⟩ := moveBands_le k
  cases d with
  | left =>
    refine hrun.pixel hwf (6 * c + row / 8) (fun hp => ?_) fun hp j hj ha => ?_
    · have hdiv : (6 * c + row / 8) / 6 = c := by omega
      have hmod : (6 * c + row / 8) % 6 = row / 8 := by omega
      refine ⟨by rw [moveWrites_horizontal rfl]; omega, ?_, fullMask_bit hb, ?_⟩ <;>
        simp only [moveWrite, hdiv, hmod, Memory.pixel]
    · rw [moveWrites_horizontal rfl] at hj
      obtain ⟨-, hcol⟩ := byteAddress_inj (by omega) hc ha
      omega
  | right =>
    refine hrun.pixel hwf (6 * (143 - c) + row / 8) (fun hp => ?_) fun hp j hj ha => ?_
    · have hdiv : 143 - (6 * (143 - c) + row / 8) / 6 = c := by omega
      have hmod : (6 * (143 - c) + row / 8) % 6 = row / 8 := by omega
      refine ⟨by rw [moveWrites_horizontal rfl]; omega, ?_, fullMask_bit hb, ?_⟩ <;>
        simp only [moveWrite, hdiv, hmod, Memory.pixel]
    · rw [moveWrites_horizontal rfl] at hj
      obtain ⟨-, hcol⟩ := byteAddress_inj (by omega) hc ha
      omega
  | up =>
    refine hrun.pixel hwf (c * moveBands k + row / 8) (fun hp => ?_) fun hp j hj ha => ?_
    · obtain ⟨hdiv, hmod⟩ := bandPlace (c := c) (show row / 8 < moveBands k by omega)
      refine ⟨by rw [moveWrites_vertical rfl]; exact place_lt hc (by omega), ?_, ?_, ?_⟩ <;> simp only [moveWrite, hdiv, hmod]
      · split
        · rw [stripMask_bit (by omega), decide_eq_true_iff]; omega
        · exact fullMask_bit hb
      · exact up_pixel m hk
    · rw [moveWrites_vertical rfl] at hj
      have hplace := column_of_place hpos hj
      obtain ⟨hband, -⟩ := byteAddress_inj hplace.1 hc ha
      simp only [moveWrite]
      rw [if_pos (by omega), stripMask_bit (by omega), decide_eq_false_iff_not]
      omega
  | down =>
    refine hrun.pixel hwf (c * moveBands k + (5 - row / 8)) (fun hp => ?_) fun hp j hj ha => ?_
    · obtain ⟨hdiv, hmod⟩ := bandPlace (c := c) (show 5 - row / 8 < moveBands k by omega)
      have hband : 5 - (5 - row / 8) = row / 8 := by omega
      refine ⟨by rw [moveWrites_vertical rfl]; exact place_lt hc (by omega), ?_, ?_, ?_⟩ <;> simp only [moveWrite, hdiv, hmod, hband]
      · split
        · rw [upperMask_bit hk hb, decide_eq_true_iff]; omega
        · exact fullMask_bit hb
      · exact down_pixel m hk hp
    · rw [moveWrites_vertical rfl] at hj
      have hplace := column_of_place hpos hj
      obtain ⟨hband, -⟩ := byteAddress_inj hplace.1 hc ha
      simp only [moveWrite]
      rw [if_pos (by omega), upperMask_bit hk hb, decide_eq_false_iff_not]
      omega

theorem moveWrites_pos (d : Direction) {k : Nat} (hk : k ≤ 8) : 0 < moveWrites d k := by
  have hpos := (moveBands_le k).1
  cases d with
  | left | right => rw [moveWrites_horizontal rfl]; omega
  | up | down => rw [moveWrites_vertical rfl]; omega

/-! ### The fill decision -/

theorem decideFill_parts (x : Shift) : (s.decideFill x).barrier = s.barrier ∧ (s.decideFill x).stream = s.stream ∧
    (s.decideFill x).raster.issued = 0 := by
  have hstart (u : State) (d : Option (List Byte)) :
      (u.startFill x d).barrier = u.barrier ∧ (u.startFill x d).stream = u.stream ∧ (u.startFill x d).raster.issued = 0 := ⟨rfl, rfl, rfl⟩
  unfold State.decideFill
  split
  · exact hstart _ _
  · split
    · exact hstart _ _
    · split
      · exact hstart _ _
      · split
        · exact ⟨rfl, rfl, rfl⟩
        · exact hstart _ _

/-- A fill begins with a strip, or with 0 (R138). -/
theorem startFill_fills (u : State) (x : Shift) (strip : Option (List Byte)) {e : List InboxEntry} (he : u.edge.inbox = e) :
    ((u.startFill x strip).raster.engine = .applying ∧ (u.startFill x strip).edge.timer = none ∧
      (u.startFill x strip).edge.shift = some { x with step := .fill, strip := strip }) ∧
      (u.startFill x strip).edge.inbox = e ∧ (u.startFill x strip).flagSet .edgeTimeout = u.flagSet .edgeTimeout :=
  ⟨⟨rfl, rfl, rfl⟩, he, rfl⟩

/-- Settles O56: the run of the move's writes, then the decision case by case. -/
theorem shiftMovesAndDecidesTheFill : Obligations.ShiftMovesAndDecidesTheFill := by
  intro s x hh heng hx hstep h1 h8 hissued hwf
  obtain ⟨v, hv, hrun⟩ := afterWrites_run hh (moveWrites_pos x.direction h8)
    (fun i m => moveWrite x.direction x.k m i) (x.originator, x.seq) (·.decideFill x) hissued (by
      intro u m i hu hi
      obtain ⟨-, hedge, -, -, huEng, huIssued, -⟩ := hu.parts
      have hx' : u.edge.shift = some x := by rw [hedge]; exact hx
      unfold State.drawNext
      rw [if_pos (huEng.trans heng), hx']
      simp only [hstep, State.drawMove, huIssued, hu.draw]
      refine if_congr ?_ rfl rfl
      rw [show (u.drawWrite (moveWrite x.direction x.k m i) (x.originator, x.seq)).countWrite.raster.issued = i + 1 from
        ((drawn_write hu _ _).parts.2.2.2.2.2.1)])
  obtain ⟨-, hedge, hstream, hstraps, -, -, hbar⟩ := hv.parts
  have hmember : v.isMember = s.isMember := (congrArg State.isMember hv.same).trans rfl
  have hflag := hv.flags .edgeTimeout (by simp)
  obtain ⟨hdraw, hshown⟩ := drawn_finished hv (keeps_decideFill v x) rfl
  obtain ⟨hbar', hstream', hissued'⟩ := decideFill_parts (s := v) x
  have hbarrier : (v.decideFill x).barrier = s.barrier := hbar'.trans hbar
  refine ⟨v.decideFill x, hrun, fun c row hc hr => ?_, ?_, hbarrier, hstream'.trans hstream, hissued', fun fills hfills => ?_⟩
  · have hp := move_pixel s.drawPlane hwf x.direction h1 h8 c row hc hr
    rw [State.drawPlane, hbarrier, hdraw]
    cases hd : x.direction <;> rw [hd] at hp <;> exact hp
  · rw [State.shownPlane, hbarrier]
    exact hshown
  · have hfilled {u : State} {strip : Option (List Byte)} {e : List InboxEntry} (ht : v.decideFill x = u.startFill x strip)
        (he : u.edge.inbox = e) (hf : u.flagSet .edgeTimeout = s.flagSet .edgeTimeout) :
        fills strip ∧ (v.decideFill x).edge.inbox = e ∧ (v.decideFill x).flagSet .edgeTimeout = s.flagSet .edgeTimeout := by
      obtain ⟨hfill, hinbox, hflag'⟩ := startFill_fills u x strip he
      rw [hfills, ht]
      exact ⟨hfill, hinbox, hflag'.trans hf⟩
    have hinbox : v.edge.inbox = s.edge.inbox := by rw [hedge]
    refine ⟨fun hnone => hfilled (by simp only [State.decideFill, hstraps, hnone]) hinbox hflag, fun hsome => ?_⟩
    obtain ⟨n, hn⟩ := Option.ne_none_iff_exists'.mp hsome
    refine ⟨fun strip hs => hfilled (by simp only [State.decideFill, hstraps, hn, hs]) hinbox hflag, fun hs => ⟨fun e he => ?_, fun hno => ?_⟩⟩
    · refine hfilled (u := v.setInbox (s.edge.inbox.filter fun f => !f.fits x)) ?_ rfl hflag
      simp only [State.decideFill, hstraps, hn, hs, hinbox, he]
    · have hfind : s.edge.inbox.find? (·.fits x) = none :=
        List.find?_eq_none.mpr fun e he => by rw [hno e he]; exact Bool.false_ne_true
      have hdecide : v.decideFill x = if s.isMember = true then
          { (v.setShift (some { x with step := .await })).setEngine .awaitEdge 0 with
            edge := { ((v.setShift (some { x with step := .await })).setEngine .awaitEdge 0).edge with timer := some 0 } }
          else (v.startFill x none).raise .edgeTimeout := by
        simp only [State.decideFill, hstraps, hn, hs, hinbox, hfind, hmember]
      refine ⟨?_, fun hst => ?_, fun hst => ?_⟩
      · rw [hdecide]
        split
        · exact hinbox
        · exact hinbox
      · rw [hfills, hdecide, if_neg (by simp [State.isMember, hst])]
        exact ⟨⟨rfl, rfl, rfl⟩, by simp⟩
      · rw [hdecide, if_pos (by simp [State.isMember, hst])]
        exact ⟨rfl, rfl, rfl, hflag⟩

end Sys2Proof.Machine
end

section
/-! PROOFS. The pixel writes of a FILL and a STRIP (O55). -/

namespace Sys2Proof.Machine

variable {s : State}

/-! ### A run of pixel writes -/

/-- What a pixel write makes of its pixel (R26, R27). -/
def Ink.paint (ink : Ink) (old : Bool) : Bool :=
  match ink with
  | .set => true
  | .clear => false
  | .invert => !old

theorem onPlane_mask (p : PixelWrite) (m : Memory) (b : Nat) :
    (p.onPlane m).mask.getLsbD b = decide (p.row % 8 = b) := by
  have hmask : (p.onPlane m).mask = BitVec.twoPow 8 (p.row % 8) := rfl
  rw [hmask, BitVec.getLsbD_twoPow, decide_eq_true (Nat.mod_lt _ (by omega)), Bool.true_and]

theorem onPlane_value (p : PixelWrite) (m : Memory) (b : Nat) (hb : b < 8) :
    (p.onPlane m).value.getLsbD b = p.act.paint ((m.read (byteAddress (p.row / 8) p.column)).getLsbD b) := by
  cases ha : p.act with
  | set =>
    have hv : (p.onPlane m).value = 0xFF := by simp only [PixelWrite.onPlane, ha]
    rw [hv]
    exact fullMask_bit hb
  | clear => simp [PixelWrite.onPlane, ha, Ink.paint]
  | invert => simp [PixelWrite.onPlane, ha, Ink.paint, hb]

/-- Pixel writes of the tile, no two of one pixel. -/
structure Separate (p : Nat → PixelWrite) (count : Nat) : Prop where
  inside : ∀ i, i < count → (p i).column < 144 ∧ (p i).row < 48
  apart : ∀ i j, i < j → j < count → ¬ ((p i).column = (p j).column ∧ (p i).row = (p j).row)

theorem Separate.run {p : Nat → PixelWrite} {count : Nat} (h : Separate p count) (m : Memory) :
    m.Run (fun i m => (p i).onPlane m) count := by
  have hclash (i j : Nat) (hi : i < j) (hj : j < count) (b : Nat) (hb : b < 8)
      (ha : byteAddress ((p i).row / 8) (p i).column = byteAddress ((p j).row / 8) (p j).column)
      (hmi : (p i).row % 8 = b) (hmj : (p j).row % 8 = b) : False := by
    obtain ⟨hband, hcol⟩ := byteAddress_inj (h.inside i (by omega)).1 (h.inside j hj).1 ha
    exact h.apart i j hi hj ⟨hcol, by omega⟩
  refine ⟨fun i m' => ⟨rfl, rfl⟩, fun i hi => ?_, fun i j hij hj ha b hb hm => ?_, fun i hi m' hm' b hb hm => ?_⟩
  · have hin := h.inside i hi
    simp only [PixelWrite.onPlane, byteAddress, Config.tileColumns, Config.planeBytes]
    omega
  · rw [onPlane_mask _ _ _, decide_eq_true_iff] at hm
    rw [onPlane_mask _ _ _, decide_eq_false_iff_not]
    exact fun hmj => hclash i j hij hj b hb ha hm hmj
  · rw [onPlane_mask _ _ _, decide_eq_true_iff] at hm
    rw [onPlane_value _ _ _ hb, onPlane_value _ _ _ hb, hm' _ b hb fun j hj ha => ?_]
    rw [onPlane_mask _ _ _, decide_eq_false_iff_not]
    exact fun hmj => hclash j i hj hi b hb ha hmj hm

/-- Separate pixel writes paint their pixels, each from its old value, and leave every other one. -/
theorem Separate.pixel {p : Nat → PixelWrite} {count : Nat} (h : Separate p count) {m : Memory} (hwf : m.wf = true) {c row : Nat}
    (hc : c < 144) :
    (∀ i, i < count → (p i).column = c → (p i).row = row →
      (m.written (fun i m => (p i).onPlane m) count).pixel c row = (p i).act.paint (m.pixel c row)) ∧
    ((∀ i, i < count → ¬ ((p i).column = c ∧ (p i).row = row)) →
      (m.written (fun i m => (p i).onPlane m) count).pixel c row = m.pixel c row) := by
  have hb : row % 8 < 8 := Nat.mod_lt _ (by omega)
  constructor
  · rintro i hi rfl rfl
    refine ((h.run m).pixel hwf (painted := True) i (fun _ => ⟨hi, rfl, ?_, onPlane_value _ _ _ hb⟩) fun k => absurd trivial k).trans
      (if_pos trivial)
    rw [onPlane_mask _ _ _, decide_eq_true rfl]
  · intro hfree
    refine ((h.run m).pixel hwf (painted := False) (v := false) 0 (fun k => k.elim) fun _ j hj ha => ?_).trans (if_neg id)
    obtain ⟨hband, hcol⟩ := byteAddress_inj (h.inside j hj).1 hc ha
    rw [onPlane_mask _ _ _, decide_eq_false_iff_not]
    exact fun hmod => hfree j hj ⟨hcol, by omega⟩

/-! ### FILL -/

variable (g : Straps)

theorem clipColumns_eq (x w : Nat) : (g.clipColumns x w).1 = max x g.windowLeft ∧
    (g.clipColumns x w).2 = min (x + w) (min (g.windowLeft + 144) (144 * g.w)) - max x g.windowLeft := ⟨rfl, rfl⟩

theorem clipRows_eq (y h : Nat) : (g.clipRows y h).1 = max y g.windowTop ∧
    (g.clipRows y h).2 = min (y + h) (min (g.windowTop + 48) (48 * g.h)) - max y g.windowTop := ⟨rfl, rfl⟩

/-- The place of a FILL's write: its column and row of the clipped part (R26). -/
theorem fillPixel_place (x y w h : Nat) (ink : Ink) {i : Nat} (hi : i < fillPixels g x y w h) :
    ∃ a b, a < (g.clipColumns x w).2 ∧ b < (g.clipRows y h).2 ∧ a * (g.clipRows y h).2 + b = i ∧
      (fillPixel g x y w h ink i).column = (g.clipColumns x w).1 + a - g.windowLeft ∧
      (fillPixel g x y w h ink i).row = (g.clipRows y h).1 + b - g.windowTop := by
  have hpos : 0 < (g.clipRows y h).2 := Nat.pos_of_ne_zero fun h0 => by rw [fillPixels, h0, Nat.mul_zero] at hi; omega
  exact ⟨i / (g.clipRows y h).2, i % (g.clipRows y h).2, Nat.div_lt_of_lt_mul (by rwa [fillPixels, Nat.mul_comm] at hi),
    Nat.mod_lt _ hpos, Nat.div_add_mod' _ _, rfl, rfl⟩

theorem separate_fill (x y w h : Nat) (ink : Ink) : Separate (fillPixel g x y w h ink) (fillPixels g x y w h) := by
  obtain ⟨hc1, hc2⟩ := clipColumns_eq g x w
  obtain ⟨hr1, hr2⟩ := clipRows_eq g y h
  refine ⟨fun i hi => ?_, fun i j hij hj ⟨hcol, hrow⟩ => ?_⟩
  · obtain ⟨a, b, ha, hb, -, hcol, hrow⟩ := fillPixel_place g x y w h ink hi
    omega
  · obtain ⟨a, b, ha, hb, hi, hcol', hrow'⟩ := fillPixel_place g x y w h ink (show i < _ by omega)
    obtain ⟨a', b', ha', hb', hj, hcol'', hrow''⟩ := fillPixel_place g x y w h ink hj
    have hsame : a = a' ∧ b = b' := by omega
    rw [hsame.1, hsame.2] at hi
    omega

/-- The pixels of a FILL's clipped part are those that its writes are of (R11, R26). -/
theorem fillPixel_at (x y w h : Nat) (ink : Ink) (c row : Nat) (hc : c < 144) (hr : row < 48) :
    (∃ i, i < fillPixels g x y w h ∧ (fillPixel g x y w h ink i).column = c ∧ (fillPixel g x y w h ink i).row = row) ↔
      g.windowLeft + c < 144 * g.w ∧ g.windowTop + row < 48 * g.h ∧ x ≤ g.windowLeft + c ∧ g.windowLeft + c < x + w ∧
        y ≤ g.windowTop + row ∧ g.windowTop + row < y + h := by
  obtain ⟨hc1, hc2⟩ := clipColumns_eq g x w
  obtain ⟨hr1, hr2⟩ := clipRows_eq g y h
  constructor
  · rintro ⟨i, hi, hcol, hrow⟩
    obtain ⟨a, b, ha, hb, -, hcol', hrow'⟩ := fillPixel_place g x y w h ink hi
    omega
  · intro hin
    obtain ⟨a, ha⟩ : ∃ a, g.windowLeft + c = (g.clipColumns x w).1 + a := ⟨g.windowLeft + c - (g.clipColumns x w).1, by omega⟩
    obtain ⟨b, hb⟩ : ∃ b, g.windowTop + row = (g.clipRows y h).1 + b := ⟨g.windowTop + row - (g.clipRows y h).1, by omega⟩
    have hb' : b < (g.clipRows y h).2 := by omega
    obtain ⟨hdiv, hmod⟩ := bandPlace (c := a) hb'
    refine ⟨a * (g.clipRows y h).2 + b, place_lt (by omega) hb', ?_, ?_⟩ <;> simp only [fillPixel, hdiv, hmod] <;> omega

/-! ### STRIP -/

theorem stripBit_iff (x y : Nat) (mode : StripMode) (data : List Byte) (j i : Nat) (p : PixelWrite) :
    stripBit g x y mode data j i = some p ↔ g.keeps (x + j) (y + i) = true ∧
      mode.act (((data[j]?).getD 0).getLsbD i) = some p.act ∧ p.column = x + j - g.windowLeft ∧ p.row = y + i - g.windowTop := by
  unfold stripBit
  split
  · next hk =>
    rw [Option.map_eq_some_iff]
    constructor
    · rintro ⟨a, ha, rfl⟩
      exact ⟨hk, ha, rfl, rfl⟩
    · rintro ⟨-, ha, hcol, hrow⟩
      exact ⟨p.act, ha, by rw [← hcol, ← hrow]⟩
  · next hk => simp [hk]

theorem keeps_iff (x y : Nat) : g.keeps x y = true ↔ x < 144 * g.w ∧ y < 48 * g.h ∧ g.windowLeft ≤ x ∧ x ≤ g.windowLeft + 143 ∧
    g.windowTop ≤ y ∧ y ≤ g.windowTop + 47 := decide_eq_true_iff

theorem mem_stripPixels (x y : Nat) (mode : StripMode) (data : List Byte) (p : PixelWrite) :
    p ∈ stripPixels g x y mode data ↔ ∃ j i, j < data.length ∧ i < 8 ∧ stripBit g x y mode data j i = some p := by
  simp only [stripPixels, List.mem_flatMap, List.mem_filterMap, List.mem_range]
  constructor
  · rintro ⟨j, hj, i, hi, hp⟩
    exact ⟨j, i, hj, hi, hp⟩
  · rintro ⟨j, i, hj, hi, hp⟩
    exact ⟨j, hj, i, hi, hp⟩

/-- No two writes of a STRIP are of one pixel. -/
theorem stripPixels_apart (x y : Nat) (mode : StripMode) (data : List Byte) :
    (stripPixels g x y mode data).Pairwise fun p q => ¬ (p.column = q.column ∧ p.row = q.row) := by
  have hplace {j i : Nat} {p : PixelWrite} (h : stripBit g x y mode data j i = some p) :
      x + j = g.windowLeft + p.column ∧ y + i = g.windowTop + p.row := by
    obtain ⟨hk, -, hcol, hrow⟩ := (stripBit_iff g x y mode data j i p).mp h
    rw [keeps_iff] at hk
    omega
  refine List.pairwise_flatMap.mpr ⟨fun j _ => ?_, ?_⟩
  · refine List.pairwise_filterMap.mpr (List.pairwise_lt_range.imp ?_)
    rintro i i' hii p hp q hq ⟨-, hrow⟩
    have := hplace hp
    have := hplace hq
    omega
  · refine List.pairwise_lt_range.imp ?_
    intro j j' hjj p hp q hq hcol
    obtain ⟨i, -, hp⟩ := List.mem_filterMap.mp hp
    obtain ⟨i', -, hq⟩ := List.mem_filterMap.mp hq
    have := hplace hp
    have := hplace hq
    omega

/-! ### The run of a FILL or STRIP -/

/-- The i-th write of an op that issues one there. -/
def Op.writeAt (op : Op) (i : Nat) : PixelWrite := (op.pixelWrite g i).getD { column := 0, row := 0, act := .set }

theorem Op.pixelWrite_some (op : Op) {i : Nat} (hi : i < op.pixelCount g) : op.pixelWrite g i = some (op.writeAt g i) := by
  unfold Op.writeAt
  cases op with
  | fill x y w h ink => rw [Op.pixelWrite, if_pos (show i < fillPixels g x y w h from hi)]; rfl
  | strip x y mode data => rw [Op.pixelWrite, List.getElem?_eq_getElem (show i < _ from hi)]; rfl
  | shift _ _ _ | present _ => exact absurd hi (Nat.not_lt_zero _)

theorem writeAt_fill (x y w h : Nat) (ink : Ink) {i : Nat} (hi : i < fillPixels g x y w h) :
    (Op.fill x y w h ink).writeAt g i = fillPixel g x y w h ink i := by
  rw [Op.writeAt, Op.pixelWrite, if_pos hi]
  rfl

theorem writeAt_strip (x y : Nat) (mode : StripMode) (data : List Byte) {i : Nat} (hi : i < (stripPixels g x y mode data).length) :
    (Op.strip x y mode data).writeAt g i = (stripPixels g x y mode data)[i] := by
  rw [Op.writeAt, Op.pixelWrite, List.getElem?_eq_getElem hi]
  rfl

theorem Op.separate (op : Op) : Separate (op.writeAt g) (op.pixelCount g) := by
  cases op with
  | fill x y w h ink =>
    have hs := separate_fill g x y w h ink
    refine ⟨fun i hi => ?_, fun i j hij hj => ?_⟩
    · rw [writeAt_fill g x y w h ink hi]
      exact hs.inside i hi
    · rw [writeAt_fill g x y w h ink (Nat.lt_trans hij hj), writeAt_fill g x y w h ink hj]
      exact hs.apart i j hij hj
  | strip x y mode data =>
    refine ⟨fun i hi => ?_, fun i j hij hj => ?_⟩
    · rw [writeAt_strip g x y mode data hi]
      obtain ⟨j, b, hj, hb, hp⟩ := (mem_stripPixels g x y mode data _).mp (List.getElem_mem hi)
      obtain ⟨hk, -, hcol, hrow⟩ := (stripBit_iff g x y mode data j b _).mp hp
      rw [keeps_iff] at hk
      omega
    · rw [writeAt_strip g x y mode data (Nat.lt_trans hij hj), writeAt_strip g x y mode data hj]
      exact List.pairwise_iff_getElem.mp (stripPixels_apart g x y mode data) i j _ _ hij
  | shift _ _ _ | present _ => exact ⟨fun i hi => absurd hi (Nat.not_lt_zero _), fun i j _ hj => absurd hj (Nat.not_lt_zero _)⟩

/-- A FILL paints its clipped rectangle. -/
theorem fill_painted {m : Memory} (hwf : m.wf = true) (x y w h : Nat) (ink : Ink) {c row : Nat} (hc : c < 144) (hr : row < 48) :
    (m.written (fun i m => ((Op.fill x y w h ink).writeAt g i).onPlane m) (fillPixels g x y w h)).pixel c row =
      if g.windowLeft + c < 144 * g.w ∧ g.windowTop + row < 48 * g.h ∧ x ≤ g.windowLeft + c ∧ g.windowLeft + c < x + w ∧
        y ≤ g.windowTop + row ∧ g.windowTop + row < y + h then ink.paint (m.pixel c row)
      else m.pixel c row := by
  obtain ⟨hpaint, hkeep⟩ := ((Op.fill x y w h ink).separate g).pixel hwf (c := c) (row := row) hc
  have hat := fillPixel_at g x y w h ink c row hc hr
  split
  · next hin =>
    obtain ⟨i, hi, hcol, hrow⟩ := hat.mpr hin
    have hw := writeAt_fill g x y w h ink hi
    have hact : ((Op.fill x y w h ink).writeAt g i).act = ink := by rw [hw]; rfl
    exact (hpaint i hi (by rw [hw]; exact hcol) (by rw [hw]; exact hrow)).trans (by rw [hact])
  · next hout =>
    refine hkeep fun i hi hp => hout (hat.mp ⟨i, hi, ?_⟩)
    rwa [writeAt_fill g x y w h ink hi] at hp

/-- A STRIP paints the pixels of its clipped bits, those that its mode writes. -/
theorem strip_painted {m : Memory} (hwf : m.wf = true) (x y : Nat) (mode : StripMode) (data : List Byte) {c row : Nat} (hc : c < 144)
    (hr : row < 48) :
    (m.written (fun i m => ((Op.strip x y mode data).writeAt g i).onPlane m) (stripPixels g x y mode data).length).pixel c row =
      if g.windowLeft + c < 144 * g.w ∧ g.windowTop + row < 48 * g.h ∧ x ≤ g.windowLeft + c ∧ g.windowLeft + c < x + data.length ∧
        y ≤ g.windowTop + row ∧ g.windowTop + row < y + 8 then
        match mode.act (((data[g.windowLeft + c - x]?).getD 0).getLsbD (g.windowTop + row - y)) with
        | some ink => ink.paint (m.pixel c row)
        | none => m.pixel c row
      else m.pixel c row := by
  obtain ⟨hpaint, hkeep⟩ := ((Op.strip x y mode data).separate g).pixel hwf (c := c) (row := row) hc
  have hplace {i : Nat} (hi : i < (stripPixels g x y mode data).length)
      (hcol : ((Op.strip x y mode data).writeAt g i).column = c) (hrow : ((Op.strip x y mode data).writeAt g i).row = row) :
      ∃ j b, j < data.length ∧ b < 8 ∧ g.keeps (x + j) (y + b) = true ∧ x + j = g.windowLeft + c ∧ y + b = g.windowTop + row ∧
        mode.act (((data[j]?).getD 0).getLsbD b) = some ((Op.strip x y mode data).writeAt g i).act := by
    obtain ⟨j, b, hj, hb, hp⟩ := (mem_stripPixels g x y mode data _).mp (List.getElem_mem hi)
    rw [← writeAt_strip g x y mode data hi] at hp
    obtain ⟨hk, hact, hcol', hrow'⟩ := (stripBit_iff g x y mode data j b _).mp hp
    have hk' := (keeps_iff g _ _).mp hk
    exact ⟨j, b, hj, hb, hk, by omega, by omega, hact⟩
  have hnone (hno : ∀ j b, j < data.length → b < 8 → g.keeps (x + j) (y + b) = true → x + j = g.windowLeft + c →
      y + b = g.windowTop + row → mode.act (((data[j]?).getD 0).getLsbD b) = none) :
      (m.written (fun i m => ((Op.strip x y mode data).writeAt g i).onPlane m) (stripPixels g x y mode data).length).pixel c row =
        m.pixel c row := by
    refine hkeep fun i hi ⟨hcol, hrow⟩ => ?_
    obtain ⟨j, b, hj, hb, hk, hx, hy, hact⟩ := hplace hi hcol hrow
    rw [hno j b hj hb hk hx hy] at hact
    cases hact
  split
  · next hin =>
    obtain ⟨hxw, hyh, hx, hxd, hy, hyd⟩ := hin
    cases hact : mode.act (((data[g.windowLeft + c - x]?).getD 0).getLsbD (g.windowTop + row - y)) with
    | none =>
      refine hnone fun j b _ _ _ hj hb => ?_
      rw [show g.windowLeft + c - x = j by omega, show g.windowTop + row - y = b by omega] at hact
      exact hact
    | some ink =>
      have hbit : stripBit g x y mode data (g.windowLeft + c - x) (g.windowTop + row - y) = some { column := c, row := row, act := ink } := by
        rw [stripBit_iff, keeps_iff]
        refine ⟨?_, hact, ?_, ?_⟩
        · omega
        · dsimp only; omega
        · dsimp only; omega
      obtain ⟨i, hi, hp⟩ := List.mem_iff_getElem.mp
        ((mem_stripPixels g x y mode data _).mpr ⟨_, _, by omega, by omega, hbit⟩)
      rw [← writeAt_strip g x y mode data hi] at hp
      refine (hpaint i hi (by rw [hp]) (by rw [hp])).trans ?_
      rw [hp]
  · next hout =>
    refine hnone fun j b hj hb hk hx hy => absurd ?_ hout
    rw [keeps_iff] at hk
    omega

/-- Settles O55: the run of the pixel writes, then the completion. -/
theorem fillAndStripPaintTheirPixels : Obligations.FillAndStripPaintTheirPixels := by
  intro s r rest op hh heng hx hissued hin hop hcount hwf
  obtain ⟨v, hv, hrun⟩ := afterWrites_run hh hcount (fun i m => (op.writeAt s.straps i).onPlane m) (r.originator, r.seq)
    State.finishRecord hissued (by
      intro u m i hu hi
      obtain ⟨-, hedge, hstream, hstraps, huEng, huIssued, -⟩ := hu.parts
      have hx' : u.edge.shift = none := by rw [hedge]; exact hx
      have hin' : u.stream.inbound = r :: rest := by rw [hstream]; exact hin
      unfold State.drawNext
      rw [if_pos (huEng.trans heng), hx', hin']
      simp only [State.drawPixel, hstraps, hop, huIssued, op.pixelWrite_some s.straps hi, hu.draw]
      refine if_congr ?_ rfl rfl
      rw [show (u.drawWrite ((op.writeAt s.straps i).onPlane m) (r.originator, r.seq)).countWrite.raster.issued = i + 1 from
        ((drawn_write hu _ _).parts.2.2.2.2.2.1)])
  have hin' : v.stream.inbound = r :: rest := by rw [hv.parts.2.2.1]; exact hin
  have hfin : v.finishRecord = (v.completed r rest).settle := by rw [State.finishRecord, complete_eq hin']
  refine ⟨_, v, hrun, hfin, ?_, hv.shown, ?_⟩
  · refine hv.same.trans ?_
    rw [hv.parts.2.2.2.2.2.1]
  · rintro c row x y hc hr rfl rfl
    rw [(drawn_finished hv (keeps_finishRecord v) rfl).1]
    cases op with
    | fill x0 y0 w h ink => exact (fill_painted s.straps hwf x0 y0 w h ink hc hr).trans (by cases ink <;> rfl)
    | strip x0 y0 mode data =>
      refine (strip_painted s.straps hwf x0 y0 mode data hc hr).trans (if_congr Iff.rfl ?_ rfl)
      have hbit : s.straps.windowLeft + c - x0 = 144 * (s.straps.n.val % s.straps.w) + c - x0 ∧
        s.straps.windowTop + row - y0 = 48 * (s.straps.n.val / s.straps.w) + row - y0 := ⟨rfl, rfl⟩
      rw [hbit.1, hbit.2]
      obtain ⟨b, hb⟩ : ∃ b, b = ((data[144 * (s.straps.n.val % s.straps.w) + c - x0]?).getD 0).getLsbD
        (48 * (s.straps.n.val / s.straps.w) + row - y0) := ⟨_, rfl⟩
      rw [← hb]
      cases mode <;> cases b <;> simp [StripMode.act, Ink.paint]
    | shift _ _ _ | present _ => exact absurd hcount (Nat.lt_irrefl 0)

end Sys2Proof.Machine
end

section
/-! PROOFS. The take of a record (O54). -/

namespace Sys2Proof.Machine

variable {s : State}

/-! ### The digest -/

theorem pairWords_getElem? (l : List Byte) (i : Nat) : (pairWords l)[i]? =
    if i < (l.length + 1) / 2 then some (be16 ((l[2 * i]?).getD 0) ((l[2 * i + 1]?).getD 0)) else none := by
  induction l using pairWords.induct generalizing i with
  | case1 => simp [pairWords]
  | case2 a =>
    cases i with
    | zero => simp [pairWords]
    | succ i => rw [if_neg (by simp)]; rfl
  | case3 a b rest ih =>
    cases i with
    | zero => simp [pairWords]
    | succ i =>
      have hlen : (a :: b :: rest).length = rest.length + 2 := rfl
      have hplace : 2 * (i + 1) = 2 * i + 1 + 1 := by omega
      rw [pairWords, List.getElem?_cons_succ, ih, hlen, hplace]
      simp only [List.getElem?_cons_succ]
      exact if_congr (by omega) rfl rfl

theorem be16_wide (a b : Byte) : (be16 a b).setWidth 32 = BitVec.ofNat 32 (256 * a.toNat + b.toNat) := by
  refine BitVec.eq_of_toNat_eq ?_
  rw [BitVec.toNat_setWidth, be16_toNat, BitVec.toNat_ofNat]

theorem digest_folds : ∀ (D : BitVec 32) (r : InRecord) (words : List (BitVec 32)), words.length = 1 + (r.bytes.length + 1) / 2 →
    words[0]? = some (BitVec.ofNat 32 (256 * r.originator.val + r.seq.toNat)) →
    (∀ i, i < (r.bytes.length + 1) / 2 → words[i + 1]? =
      some (BitVec.ofNat 32 (256 * ((r.bytes[2 * i]?).getD 0).toNat + ((r.bytes[2 * i + 1]?).getD 0).toNat))) →
    foldRecord D r = words.foldl (fun d w => d * 31 + w) D := by
  intro D r words hlen hfirst hrest
  have hwords : words = (digestWords r).map (·.setWidth 32) := by
    refine List.ext_getElem? fun i => ?_
    rw [List.getElem?_map, digestWords]
    cases i with
    | zero =>
      rw [hfirst, List.getElem?_cons_zero, Option.map_some, be16_wide, toNat_station]
    | succ i =>
      rw [List.getElem?_cons_succ, pairWords_getElem?]
      by_cases hi : i < (r.bytes.length + 1) / 2
      · rw [hrest i hi, if_pos hi, Option.map_some, be16_wide]
      · rw [List.getElem?_eq_none (by omega), if_neg hi, Option.map_none]
  rw [hwords, List.foldl_map]
  rfl

theorem neighbours (g : Straps) (rotate : Bool) (tc tr : Nat) (at' : Nat → Nat → Option Nat) (hc : tc = g.n.val % g.w)
    (hr : tr = g.n.val / g.w) (hat : ∀ c r, at' c r = some (r * g.w + c)) :
    g.leftOf rotate = (if tc ≠ 0 then at' (tc - 1) tr else if rotate = true then at' (g.w - 1) tr else none) ∧
    g.rightOf rotate = (if tc + 1 ≠ g.w then at' (tc + 1) tr else if rotate = true then at' 0 tr else none) ∧
    g.above rotate = (if tr ≠ 0 then at' tc (tr - 1) else if rotate = true then at' tc (g.h - 1) else none) ∧
    g.below rotate = (if tr + 1 ≠ g.h then at' tc (tr + 1) else if rotate = true then at' tc 0 else none) := by
  subst hc hr
  simp only [hat, ite_not]
  exact ⟨rfl, rfl, rfl, rfl⟩

/-! ### The take -/

theorem settleFor_busy (n : Nat) (h : s.raster.engine ≠ .idle) : State.settleFor n s = s := by
  cases n with
  | zero => rfl
  | succ n => exact if_neg h

/-- A take that leaves the engine at work ends the settling; one that completes the record goes on with the next (R24, R31). -/
theorem settle_take {r : InRecord} {rest : List InRecord} (he : s.raster.engine = .idle) (hin : s.stream.inbound = r :: rest) :
    ((s.take r).raster.engine ≠ .idle → s.settle = s.take r) ∧
    ((s.take r).stream.inbound.length = rest.length → s.settle = (s.take r).settle) := by
  have hstep : s.settle = State.settleFor rest.length (s.take r) := by
    rw [State.settle, hin, List.length_cons, State.settleFor, if_pos he, hin]
  refine ⟨fun h => hstep.trans (settleFor_busy _ h), fun h => hstep.trans ?_⟩
  rw [State.settle, h]

/-- The state with the record's words folded into the digest (R24, R125). -/
def State.folded (s : State) (r : InRecord) : State := { s with raster := { s.raster with digest := foldRecord s.raster.digest r } }

theorem take_malformed {r : InRecord} (h : r.malformed = true) : s.take r = (s.folded r).complete := if_pos h

theorem take_shift {r : InRecord} {d : Direction} {k : Nat} {rotate : Bool} (h : r.malformed = false)
    (hop : parseOp s.straps r.bytes = some (.shift d k rotate)) : s.take r = (s.folded r).beginShift r d k rotate := by
  simp only [State.take, h, hop, Bool.false_eq_true, if_false, State.folded]

theorem take_present {r : InRecord} {copy : Bool} (h : r.malformed = false) (hop : parseOp s.straps r.bytes = some (.present copy)) :
    s.take r = (s.folded r).beginPresent (r.tag.getD s.stream.epoch) := by
  simp only [State.take, h, hop, Bool.false_eq_true, if_false, State.folded]

theorem take_pixels {r : InRecord} {op : Op} (h : r.malformed = false) (hop : parseOp s.straps r.bytes = some op)
    (hkind : (∃ x y w h ink, op = .fill x y w h ink) ∨ ∃ x y mode data, op = .strip x y mode data) :
    s.take r = if op.pixelCount s.straps = 0 then (s.folded r).complete else (s.folded r).setEngine .applying 0 := by
  rcases hkind with ⟨x, y, w, h', ink, rfl⟩ | ⟨x, y, mode, data, rfl⟩ <;>
    simp only [State.take, h, hop, Bool.false_eq_true, if_false, State.folded]

theorem settle_completed {r : InRecord} {rest : List InRecord} (he : s.raster.engine = .idle) (hin : s.stream.inbound = r :: rest)
    (h : s.take r = (s.folded r).complete) : s.settle = ((s.folded r).completed r rest).settle := by
  have hcomplete : (s.folded r).complete = (s.folded r).completed r rest := complete_eq hin
  rw [(settle_take he hin).2 (by rw [h, hcomplete]; rfl), h, hcomplete]

theorem settle_pixels {r : InRecord} {rest : List InRecord} (he : s.raster.engine = .idle) (hin : s.stream.inbound = r :: rest) {n : Nat}
    (h : s.take r = if n = 0 then (s.folded r).complete else (s.folded r).setEngine .applying 0) :
    (n = 0 → s.settle = ((s.folded r).completed r rest).settle) ∧ (n ≠ 0 → s.settle = (s.folded r).setEngine .applying 0) := by
  refine ⟨fun hn => settle_completed he hin (h.trans (if_pos hn)), fun hn => ?_⟩
  rw [if_neg hn] at h
  rw [(settle_take he hin).1 (by rw [h]; simp [State.setEngine]), h]

/-- The taken PRESENT: its digest recorded, and the engine waiting for the barrier (R30, R126). -/
def State.presented (d : State) (t : Epoch) : State := (d.recordDigest t).setEngine .awaitBarrier 0

theorem settle_present {r : InRecord} {rest : List InRecord} {copy : Bool} {t : Epoch} (he : s.raster.engine = .idle)
    (hin : s.stream.inbound = r :: rest) (hp : parseOp s.straps r.bytes = some (.present copy))
    (h : s.take r = (s.folded r).beginPresent t) :
    (s.members.station = .member → s.settle = { (s.folded r).presented t with
      barrier := { s.barrier with pending := some t, slot := some t, timer := some 0 } }) ∧
    (s.members.station ≠ .member → s.settle =
      (State.commitFor { (s.folded r).presented t with barrier := { s.barrier with pending := some t } } t).settle) := by
  refine ⟨fun hm => ?_, fun hm => ?_⟩
  · have hbegin : (s.folded r).beginPresent t = { (s.folded r).presented t with
        barrier := { s.barrier with pending := some t, slot := some t, timer := some 0 } } := if_pos ((isMember_iff s).mpr hm)
    rw [(settle_take he hin).1 (by rw [h, hbegin]; simp [State.presented, State.setEngine]), h, hbegin]
  · have hbegin : (s.folded r).beginPresent t =
        State.commitFor { (s.folded r).presented t with barrier := { s.barrier with pending := some t } } t :=
      if_neg (mt (isMember_iff s).mp hm)
    rw [hbegin] at h
    rw [← h]
    have hfor := commitFor_of (s := { (s.folded r).presented t with barrier := { s.barrier with pending := some t } }) t hin hp
    cases copy with
    | true =>
      rw [if_pos rfl] at hfor
      have hbusy : (s.take r).raster.engine ≠ .idle := by rw [h, hfor]; simp
      rw [(settle_take he hin).1 hbusy, settle_busy hbusy]
    | false =>
      rw [if_neg Bool.false_ne_true] at hfor
      exact (settle_take he hin).2 (by rw [h, hfor]; rfl)

/-! ### The take of a SHIFT -/

/-- A SHIFT in progress that the engine applies, with the outbox at its take (R29, R57, R136). -/
def State.shiftBegun (d : State) (x : Shift) (outbox : List OutboxRecord) (lost : Bool) : State := { d with
  raster := { d.raster with engine := .applying, issued := 0 }
  edge := { d.edge with outbox := outbox, shift := some x }
  events := { d.events with flags := (if lost = true then d.events.flags ||| Event.edgeLost.bit else d.events.flags) } }

theorem shiftBegun_edgeEligible (d : State) (x : Shift) (outbox : List OutboxRecord) (q : OutboxRecord) :
    (d.shiftBegun x outbox false).edgeEligible q = true ↔ d.members.station = .member ∧ d.inRoster q.target = true :=
  (edgeEligible_iff _ q).trans (and_congr_right fun _ => (inRoster_iff d q.target).symm)

/-- The one record of the outbox, if it is not eligible, is discarded. -/
theorem discardIneligible_one {d : State} {x : Shift} {q : OutboxRecord} (hsend : d.sendingEdge = false)
    (hq : (d.shiftBegun x [q] false).edgeEligible q = false) :
    (d.shiftBegun x [q] false).discardIneligible = d.shiftBegun x [] true := by
  have hsend' : (d.shiftBegun x [q] false).sendingEdge = false := hsend
  rw [discardIneligible_eq (eligible := (d.shiftBegun x [q] false).edgeEligible) fun r => by simp [hsend']]
  have hdrop : [q].dropWhile (fun r => !(d.shiftBegun x [q] false).edgeEligible r) = [] := by simp [hq]
  have hhead : [q].head?.any (fun r => !(d.shiftBegun x [q] false).edgeEligible r) = true := by simp [hq]
  have hout : (d.shiftBegun x [q] false).edge.outbox = [q] := rfl
  rw [State.checked, hout, hdrop, hhead]
  rfl

/-- A SHIFT's begin: its capture where it can be made, and the check of a record that becomes the head. -/
theorem beginShift_of {d : State} {r : InRecord} {dir : Direction} {k : Nat} {rotate : Bool} {x : ShiftStep → Option (List Byte) → Shift}
    (hx : ∀ step strip, x step strip =
      { originator := r.originator, seq := r.seq, direction := dir, k := k, rotate := rotate, step := step, strip := strip }) :
    (d.straps.target dir rotate = none → d.beginShift r dir k rotate = d.shiftBegun (x .move none) d.edge.outbox false) ∧
    (d.straps.target dir rotate = some d.straps.n.val →
      d.beginShift r dir k rotate = d.shiftBegun (x .move (some (captureStrip dir k d.drawPlane))) d.edge.outbox false) ∧
    ∀ n : Station, n ≠ d.straps.n → d.straps.target dir rotate = some n.val → ∀ q : OutboxRecord,
      q = { originator := r.originator, seq := r.seq, direction := dir, k := k, target := n, data := captureStrip dir k d.drawPlane } →
      (d.edge.outbox = [] → d.beginShift r dir k rotate = (d.shiftBegun (x .move none) [q] false).discardIneligible) ∧
      (d.edge.outbox.length = 1 → d.beginShift r dir k rotate = d.shiftBegun (x .move none) (d.edge.outbox ++ [q]) false) ∧
      (2 ≤ d.edge.outbox.length → d.beginShift r dir k rotate = d.shiftBegun (x .capture none) d.edge.outbox false) := by
  have hbegin : d.beginShift r dir k rotate = if d.edge.outbox = [] then (d.shiftBegun (x .capture none) d.edge.outbox false).tryCapture.discardIneligible
      else (d.shiftBegun (x .capture none) d.edge.outbox false).tryCapture := by
    rw [hx]
    rfl
  have hsettled {u : State} (hu : u.edge.outbox = d.edge.outbox)
      (htry : (d.shiftBegun (x .capture none) d.edge.outbox false).tryCapture = u) : d.beginShift r dir k rotate = u := by
    rw [hbegin, htry]
    split
    · next hout =>
      refine discardIneligible_settled fun q rest hq => ?_
      rw [hu, hout] at hq
      cases hq
    · rfl
  obtain ⟨hnone, hown, hother⟩ := tryCapture_capture (s := d.shiftBegun (x .capture none) d.edge.outbox false) (x := x .capture none) rfl
    (by rw [hx])
  simp only [hx] at hnone hown hother hsettled hbegin ⊢
  refine ⟨fun ht => hsettled rfl (hnone ht), fun ht => hsettled rfl (hown ht), ?_⟩
  rintro n hn ht q rfl
  have htry := hother n hn ht
  refine ⟨fun hout => ?_, fun hout => ?_, fun hout => ?_⟩
  · rw [hbegin, if_pos hout, htry, if_pos (c := (d.shiftBegun _ d.edge.outbox false).edge.outbox.length < 2)
      (show d.edge.outbox.length < 2 by simp [hout]), show (d.shiftBegun _ d.edge.outbox false).edge.outbox = [] from hout]
    rfl
  · rw [hbegin, if_neg (by rintro hnil; simp [hnil] at hout), htry,
      if_pos (c := (d.shiftBegun _ d.edge.outbox false).edge.outbox.length < 2) (show d.edge.outbox.length < 2 by omega)]
    rfl
  · rw [hbegin, if_neg (by rintro hnil; simp [hnil] at hout), htry,
      if_neg (c := (d.shiftBegun _ d.edge.outbox false).edge.outbox.length < 2) (show ¬ d.edge.outbox.length < 2 by omega)]

/-- Settles O54. -/
theorem recordIsTakenByItsKind : Obligations.RecordIsTakenByItsKind := by
  refine ⟨digest_folds, fun g rotate tc tr at' hc hr hat left right up down hl hri hu hd => ?_, ?_⟩
  · obtain ⟨hleft, hright, habove, hbelow⟩ := neighbours g rotate tc tr at' hc hr hat
    subst hl hri hu hd
    exact ⟨⟨hleft, hright⟩, ⟨hright, hleft⟩, ⟨habove, hbelow⟩, hbelow, habove⟩
  · rintro s d r rest he hin rfl
    refine ⟨fun hbad => settle_completed he hin (take_malformed hbad), fun hgood op hop => ⟨fun hkind => ?_, ?_, ?_⟩⟩
    · exact settle_pixels he hin (take_pixels hgood hop hkind)
    · rintro copy t rfl htag e rfl
      have htake := take_present hgood hop
      rw [htag, Option.getD_some] at htake
      exact settle_present he hin hop htake
    · rintro dir k rotate rfl begun hbegun
      have htake := take_shift hgood hop
      have hbusy {x : Shift} {outbox : List OutboxRecord} {lost : Bool} (h : (s.folded r).beginShift r dir k rotate =
          (s.folded r).shiftBegun x outbox lost) : s.settle = (s.folded r).shiftBegun x outbox lost := by
        rw [h] at htake
        rw [(settle_take he hin).1 (by rw [htake]; simp [State.shiftBegun]), htake]
      have hsame (strip : Option (List Byte)) (step : ShiftStep) (outbox : List OutboxRecord) (lost : Bool) :
          (s.folded r).shiftBegun { originator := r.originator, seq := r.seq, direction := dir, k := k, rotate := rotate,
                                    step := step, strip := strip } outbox lost = begun strip step outbox lost := (hbegun ..).symm
      simp only [← hsame]
      obtain ⟨hnone, hown, hother⟩ := beginShift_of (d := s.folded r) (r := r) (dir := dir) (k := k) (rotate := rotate) fun _ _ => rfl
      refine ⟨fun ht => hbusy (hnone ht), fun ht => hbusy (hown ht), fun n hn ht q hq => ?_⟩
      obtain ⟨hempty, hone, htwo⟩ := hother n hn ht q hq
      have htarget : q.target = n := by rw [hq]
      refine ⟨fun hout hsend => ?_, fun hout => hbusy (hone hout), fun hout => hbusy (htwo hout)⟩
      have hquiet : (s.folded r).sendingEdge = false := by
        refine Bool.eq_false_iff.mpr fun h => ?_
        obtain ⟨x, m, hx, ho⟩ := (sendingEdge_iff _).mp h
        exact hsend x m hx ho
      have helig := shiftBegun_edgeEligible (s.folded r)
        { originator := r.originator, seq := r.seq, direction := dir, k := k, rotate := rotate, step := .move, strip := none } [q] q
      rw [htarget] at helig
      refine ⟨fun hin' => hbusy ((hempty hout).trans (discardIneligible_settled ?_)),
        fun hout' => hbusy ((hempty hout).trans (discardIneligible_one hquiet ?_))⟩
      · intro q' rest' hq'
        obtain ⟨rfl, -⟩ := List.cons.inj hq'
        exact helig.mpr hin'
      · refine Bool.eq_false_iff.mpr fun h => ?_
        obtain ⟨hm, hr⟩ := helig.mp h
        rcases hout' with hout' | hout'
        · exact hout' hm
        · exact Bool.false_ne_true (hout'.symm.trans hr)

end Sys2Proof.Machine
end

section
/-! PROOFS. The rows and bits of the line (O45). -/

namespace Sys2Proof.Machine

variable {s : State}

/-! ### Where a message is left -/

theorem keepLater_eq (v : Option Epoch) (t : Epoch) : keepLater v t = match v with
    | some v => some (if epochAtOrAfter t v then t else v)
    | none => some t := by
  cases v <;> rfl

/-- A voted epoch that waits is written where the framing leaves the message, and the commit condition evaluated (R117, R119). -/
theorem leaveMessage_eq (f : Framing) :
    (s.barrier.pendingVote = none → s.leaveMessage f = s.setFraming f) ∧
    ∀ n t, s.barrier.pendingVote = some (n, t) → s.leaveMessage f = State.evaluateCommit { s.setFraming f with
      barrier := { s.barrier with pendingVote := none }
      peers := s.peers.modify n.val fun p => { p with voted := match p.voted with
        | some v => some (if epochAtOrAfter t v then t else v)
        | none => some t } } := by
  refine ⟨fun h => ?_, fun n t h => ?_⟩
  · unfold State.leaveMessage State.writePendingVote
    rw [show (s.setFraming f).barrier.pendingVote = none from h]
  · have hvoted : (fun p : Peer => { p with voted := keepLater p.voted t }) = fun p => { p with voted := match p.voted with
        | some v => some (if epochAtOrAfter t v then t else v)
        | none => some t } := funext fun p => congrArg (fun v => { p with voted := v }) (keepLater_eq p.voted t)
    unfold State.leaveMessage State.writePendingVote
    rw [show (s.setFraming f).barrier.pendingVote = some (n, t) from h]
    exact congrArg (fun g => State.evaluateCommit { s.setFraming f with
      barrier := { s.barrier with pendingVote := none }, peers := s.peers.modify n.val g }) hvoted

theorem ownSlot_eq (s : State) : s.ownSlot =
    if s.bus.framing.ackDue = true ∧ s.members.station ≠ .strapFault ∧ s.members.station ≠ .busFault then some s.straps.n else none := by
  unfold State.ownSlot State.handsOn
  exact if_congr (by simp) rfl rfl

theorem placeLine_quiet (ht : s.bus.tx = none) (h1 : s.bus.framing.stage ≠ .idle) (h2 : s.bus.framing.stage ≠ .frame) :
    s.placeLine = s.leaveMessage (s.bus.framing.quiet s.ownSlot) := by
  unfold State.placeLine State.transmitting
  rw [ht]
  cases hs : s.bus.framing.stage with
  | idle => exact absurd hs h1
  | frame => exact absurd hs h2
  | _ => rfl

theorem exec_lineEnd (hh : s.held = false) (ht : s.bus.tx = none)
    (hs : s.bus.framing.stage = .ack ∨ s.bus.framing.stage = .ending ∨ s.bus.framing.stage = .break) :
    exec .lineEnd s = .next (s.leaveMessage (s.bus.framing.quiet s.ownSlot)) := by
  have hrow : exec .lineEnd s = .next s.placeLine := by
    rcases hs with hs | hs | hs <;> simp only [exec, execLineEnd, whenRunning, hh, Bool.false_eq_true, if_false, State.endLine, hs]
  rw [hrow, placeLine_quiet ht (by rcases hs with hs | hs | hs <;> simp [hs]) (by rcases hs with hs | hs | hs <;> simp [hs])]

theorem exec_linePlaced (hh : s.held = false) (ht : s.bus.tx = none)
    (hs : s.bus.framing.stage = .unsynced ∨ s.bus.framing.stage = .break) :
    exec .linePlaced s = .next (s.leaveMessage (s.bus.framing.quiet s.ownSlot)) := by
  have hrow : exec .linePlaced s = .next s.placeLine := by
    rcases hs with hs | hs <;> simp only [exec, execLinePlaced, whenRunning, hh, Bool.false_eq_true, if_false, State.enterIdle, hs]
  rw [hrow, placeLine_quiet ht (by rcases hs with hs | hs <;> simp [hs]) (by rcases hs with hs | hs <;> simp [hs])]

theorem exec_endFieldUnsynced (hh : s.held = false) (ht : s.bus.tx = none)
    (hs : s.bus.framing.stage = .ack ∨ s.bus.framing.stage = .ending) :
    exec .endFieldUnsynced s = .next (s.leaveMessage Framing.lostDominant) := by
  rcases hs with hs | hs <;> simp only [exec, execEndFieldUnsynced, whenRunning, hh, Bool.false_eq_true, if_false, State.upsetEndField,
    State.transmitting, ht, Option.isSome_none, hs]

/-- The length field of a message's bits. -/
theorem fieldAt_length (before after : List Bool) (l : Byte) (hb : before.length = 18) :
    fieldAt (before ++ fieldBits l ++ after) 18 8 = l.toNat := fieldAt_field before after l hb.symm

theorem exec_badCrc (hh : s.held = false) (ht : s.bus.tx = none) (h1 : s.bus.framing.stage ≠ .unsynced)
    (h2 : s.bus.framing.stage ≠ .break) (bits : List Bool) : exec (.badCrc bits) s = .next (
      if 160 < fieldAt bits 18 8 then s.leaveMessage Framing.lost
      else s.setFraming { s.bus.framing.ackField (lastRun bits) with ackDue := false }) := by
  have hbefore : s.beforeMessage 1 = s := by
    unfold State.beforeMessage
    cases hs : s.bus.framing.stage with
    | unsynced => exact absurd hs h1
    | ack | ending => exact if_neg (by decide)
    | idle | frame => rfl
    | _ => exact absurd hs h2
  have hrow : exec (.badCrc bits) s = .next (s.discardMessage bits) := by
    simp only [exec, execBadCrc, whenRunning, hh, Bool.false_eq_true, if_false, hbefore]
  rw [hrow, State.discardMessage, if_neg (by simp [State.transmitting, ht])]
  rfl

/-! ### One bit time of the framing -/

theorem quiet_eq (f : Framing) (own : Option Station) (h1 : f.stage ≠ .idle) (h2 : f.stage ≠ .frame) : f.quiet own =
    { stage := .idle, gap := if f.stage = .break then 1 else 0, requiredGap := 11, position := 0, bits := []
      ackDue := false, domRun := 0
      recRun := match f.stage with
        | .ack => (match own with
          | some n => if f.position ≤ n.val then 15 - n.val else f.recRun + (16 - f.position)
          | none => f.recRun + (16 - f.position)) + 7
        | .ending => f.recRun + (7 - f.position)
        | .break => 1
        | .unsynced | .idle | .frame => 32 } := by
  unfold Framing.quiet
  cases hs : f.stage with
  | idle => exact absurd hs h1
  | frame => exact absurd hs h2
  | ack =>
    cases own with
    | none => rfl
    | some n =>
      have hslots : Config.ackSlots - (n.val + 1) = 15 - n.val := by simp only [Config.ackSlots]; omega
      simp only [Framing.runPastSlots, hslots]
      rfl
  | _ => rfl

/-- The run counts after a bit time, by the level of the line (R42). -/
theorem count_eq (f : Framing) (b : LineBit) {dominant : Bool} (h : dominant = f.dominantFor b) :
    f.count b = if dominant = true then { f with domRun := f.domRun + 1, recRun := 0 } else { f with domRun := 0, recRun := f.recRun + 1 } := by
  rw [h]
  rfl

theorem bare_dominant (f : Framing) (b : LineBit) : f.dominantFor b.bare = b.readsZero := by
  unfold LineBit.bare
  cases b.readsZero <;> rfl

/-- R42's table in the stages that read a message's bits, and those of an unplaced line. -/
theorem follow_coded (f g : Framing) (b : LineBit) (hg : g = f.count b) :
    (f.stage = .unsynced → f.follow b = if 9 ≤ g.domRun then g.toBreak else if 32 ≤ g.recRun then g.toIdle 0 11 else g) ∧
    (f.stage = .frame → f.follow b = if 9 ≤ g.domRun then g.toBreak else { g with bits := f.bits ++ [!b.readsZero] }) := by
  subst hg
  refine ⟨fun hs => ?_, fun hs => ?_⟩ <;> simp only [Framing.follow, hs] <;> rfl

/-- R42's table in the stages outside a message's fields. -/
theorem follow_bare (f g : Framing) (b : LineBit) (hg : g = f.count b.bare) :
    (f.stage = .idle → f.follow b = if b.readsZero = true then Framing.startBit else { g with gap := f.gap + 1 }) ∧
    (f.stage = .ack → f.follow b = { f with
      recRun := g.recRun
      stage := if f.position < 15 then .ack else .ending
      position := if f.position < 15 then f.position + 1 else 0
      domRun := if f.position < 15 then f.domRun else 0 }) ∧
    (f.stage = .ending → f.follow b = if b.readsZero = true then
        (if f.position = 0 then Framing.startBit else { Framing.startBit with stage := .unsynced, bits := [] })
      else if f.position < 6 then { g with position := f.position + 1 } else g.toIdle 0 11) ∧
    (f.stage = .break → f.follow b = if b.readsZero = true then g else g.toIdle 1 11) := by
  subst hg
  refine ⟨fun hs => by simp only [Framing.follow, hs], fun hs => ?_, fun hs => ?_, fun hs => by simp only [Framing.follow, hs]; rfl⟩
  · have hslot : f.countSlot b.bare = { f with recRun := (f.count b.bare).recRun } := by
      unfold Framing.countSlot Framing.count
      split <;> rfl
    simp only [Framing.follow, hs, Config.ackSlots, hslot]
    by_cases hp : f.position < 15
    · rw [if_pos (by omega), if_pos hp, if_pos hp, if_pos hp]
    · rw [if_neg (by omega), if_neg hp, if_neg hp, if_neg hp]
  · simp only [Framing.follow, hs]
    refine if_congr Iff.rfl rfl (if_congr ?_ rfl rfl)
    simp only [Config.endBits]
    omega

/-- A message's bits leave the run counts of the framing that reads them (R39, R42). -/
theorem foldl_runs (bits : List Bool) (f g : Framing) (hf : f.Coded) (hs : g.stage = .frame) (hd : g.domRun = f.domRun)
    (hr : g.recRun = f.recRun) : (bits.foldl (fun f bit => f.count (.coded (!bit))) f).recRun =
      (bits.foldl (fun f bit => f.follow (.coded (!bit))) g).recRun := by
  induction bits generalizing f g with
  | nil => exact hr.symm
  | cons bit bits ih =>
    have hg : g.Coded := ⟨hd ▸ hf.dominant, hr ▸ hf.recessive, by rw [hd, hr]; exact hf.single⟩
    have hlow : ¬ 9 ≤ (g.count (.coded (!bit))).domRun := by
      have := (hg.count (!bit)).dominant
      simp only [Config.codedRun] at this
      omega
    have hfollow := (follow_coded g _ (.coded (!bit)) rfl).2 hs
    rw [if_neg hlow] at hfollow
    have hlevel : g.dominantFor (.coded (!bit)) = f.dominantFor (.coded (!bit)) := by
      cases bit <;> simp only [Framing.dominantFor, Bool.not_true, Bool.not_false, hd, hr]
    refine ih _ _ (hf.count _) (hg.follow hs _).1 ?_ ?_ <;> dsimp only
    · rw [hfollow, count_eq g _ rfl, count_eq f _ rfl, hlevel]
      split
      · exact congrArg (· + 1) hd
      · rfl
    · rw [hfollow, count_eq g _ rfl, count_eq f _ rfl, hlevel]
      split
      · rfl
      · exact congrArg (· + 1) hr

/-- Settles O45. -/
theorem lineRowsMoveTheStage : Obligations.LineRowsMoveTheStage := by
  refine ⟨fun s hh ht => ⟨fun c f own u hown hrow => ?_, ?_, fun before after l hb hl h1 h2 => ?_⟩, fun f own h1 h2 => ?_,
    fun f g b zero dominant hzero hdom hg placed broken start hplaced hbroken hstart => ?_, fun bits start hstart => ⟨lastRun_le bits, ?_⟩⟩
  · have hleave : exec c s = .next (s.leaveMessage f) := by
      have hslot : s.ownSlot = own := (ownSlot_eq s).trans hown.symm
      rcases hrow with ⟨rfl, hs, rfl⟩ | ⟨rfl, hs, rfl⟩ | ⟨rfl, hs, rfl⟩ | ⟨before, after, l, hb, rfl, hl, hs, rfl⟩
      · rw [← hslot]
        exact exec_lineEnd hh ht hs
      · rw [← hslot]
        exact exec_linePlaced hh ht hs
      · exact exec_endFieldUnsynced hh ht hs
      · have hrow := exec_badCrc hh ht (by rcases hs with hs | hs <;> simp [hs]) (by rcases hs with hs | hs <;> simp [hs])
          (before ++ fieldBits l ++ after)
        rw [fieldAt_length before after l hb, if_pos hl] at hrow
        exact hrow
    obtain ⟨hnone, hsome⟩ := leaveMessage_eq (s := s) f
    refine ⟨fun hv => hleave.trans (congrArg _ (hnone hv)), fun n t hv hu => ?_⟩
    have hvoted : exec c s = .next u.evaluateCommit := by
      rw [hu]
      exact hleave.trans (congrArg _ (hsome n t hv))
    have hpending : u.barrier.pending = s.barrier.pending := by rw [hu]
    refine ⟨fun hp => hvoted.trans (congrArg _ (evaluateCommit_none (hpending.trans hp))), fun b hp => ?_⟩
    have hcommit := evaluateCommit_some (hpending.trans hp)
    exact ⟨fun k => hvoted.trans (congrArg _ (hcommit.trans (if_pos ((commitReady_iff u b).mpr k)))),
      fun k => hvoted.trans (congrArg _ (hcommit.trans (if_neg ((commitReady_iff u b).not.mpr k))))⟩
  · simp only [exec, execBreakSeen, whenRunning, hh, Bool.false_eq_true, if_false, State.breakOnLine, State.transmitting, ht,
      Option.isSome_none]
    rfl
  · have hrow := exec_badCrc hh ht h1 h2 (before ++ fieldBits l ++ after)
    rw [fieldAt_length before after l hb, if_neg (Nat.not_lt.mpr hl)] at hrow
    exact hrow
  · exact (quiet_eq f own h1 h2).trans (by cases f.stage <;> cases own <;> rfl)
  · have hread : zero = b.readsZero := hzero.trans (by cases b <;> rfl)
    have hcoded (h : f.stage = .unsynced ∨ f.stage = .frame) : g = f.count b := by
      refine hg.trans (count_eq f b (hdom.trans ?_)).symm
      rcases b with _ | z | _
      · rfl
      · refine (if_pos h).trans ?_
        cases z <;> rfl
      · rfl
    have hbare (h : ¬ (f.stage = .unsynced ∨ f.stage = .frame)) : g = f.count b.bare := by
      refine hg.trans (count_eq f b.bare (hdom.trans (Eq.trans ?_ (bare_dominant f b).symm))).symm
      rcases b with _ | z | _
      · rfl
      · exact if_neg h
      · rfl
    subst hplaced hbroken hstart hread
    refine ⟨fun hs => ?_, fun hs => ?_, fun hs => ?_, fun hs => ?_, fun hs => ?_, fun hs => ?_⟩
    · exact (follow_coded f g b (hcoded (.inl hs))).1 hs
    · exact (follow_bare f g b (hbare (by simp [hs]))).1 hs
    · exact (follow_coded f g b (hcoded (.inr hs))).2 hs
    · exact (follow_bare f g b (hbare (by simp [hs]))).2.1 hs
    · exact (follow_bare f g b (hbare (by simp [hs]))).2.2.1 hs
    · exact (follow_bare f g b (hbare (by simp [hs]))).2.2.2 hs
  · subst hstart
    exact foldl_runs bits Framing.startBit _ startBit_coded rfl rfl rfl

end Sys2Proof.Machine
end

section
/-! PROOFS. A step on an empty queue (O3). -/

namespace Sys2Proof.Machine

variable {s : State}

/-! ### The timers -/

theorem timerDue_iff (t : Option Nat) (limit : Nat) : timerDue t limit = true ↔ ∃ a, t = some a ∧ limit ≤ a := by
  cases t <;> simp [timerDue]

theorem mem_dueWhen (c : Bool) (i j : Instr) : i ∈ dueWhen c j ↔ i = j ∧ c = true := by
  cases c <;> simp [dueWhen]

theorem awaits_iff (x : Option Shift) : x.any (fun x => decide (x.step = .await)) = true ↔ ∃ y, x = some y ∧ y.step = .await := by
  cases x <;> simp

/-- The rows of the timers at their limits (R90, R94, R99, R122, R139, R148). -/
theorem mem_expired (s : State) (i : Instr) : i ∈ s.expired ↔
    (i = .rowEnd ∧ ∃ a, s.scan.timer = some a ∧ 1000 ≤ a) ∨
    (i = .listenTimerExpiry ∧ s.members.station = .listening ∧ ∃ a, s.members.listenTimer = some a ∧ 750000 ≤ a) ∨
    (i = .beaconTimerExpiry ∧ s.members.station = .member ∧ ∃ a, s.members.beaconTimer = some a ∧ 300000 ≤ a) ∨
    (∃ n, i = .silenceTimeout n ∧ s.inRoster n = true ∧ ∃ a, (s.peer n).silence = some a ∧ 1200000 ≤ a) ∨
    (i = .barrierTimeout ∧ s.barrier.pending ≠ none ∧ ∃ a, s.barrier.timer = some a ∧ 600000 ≤ a) ∨
    (i = .edgeTimeout ∧ (∃ x, s.edge.shift = some x ∧ x.step = .await) ∧ ∃ a, s.edge.timer = some a ∧ 150000 ≤ a) := by
  have hsilence : i ∈ (s.roster.filter fun n => timerDue (s.peer n).silence Config.silenceLimit).map Instr.silenceTimeout ↔
      ∃ n, i = .silenceTimeout n ∧ s.inRoster n = true ∧ ∃ a, (s.peer n).silence = some a ∧ 1200000 ≤ a := by
    rw [List.mem_map]
    refine exists_congr fun n => ?_
    rw [List.mem_filter, mem_roster, timerDue_iff]
    constructor
    · rintro ⟨⟨hr, ht⟩, rfl⟩
      exact ⟨rfl, hr, ht⟩
    · rintro ⟨rfl, hr, ht⟩
      exact ⟨⟨hr, ht⟩, rfl⟩
  unfold State.expired
  simp only [List.mem_append, mem_dueWhen, hsilence, Bool.and_eq_true, timerDue_iff, decide_eq_true_iff, isMember_iff,
    Option.isSome_iff_ne_none, awaits_iff, or_assoc]
  rfl

/-! ### The copy -/

theorem copyStep_frame (s : State) : s.copyStep = { s with raster := s.copyStep.raster } := by
  unfold State.copyStep
  split
  · cases h : s.barrier.shown <;> simp [State.copyWrite, State.setDrawPlane, State.setPlane, PlaneName.other, h]
  · rfl

theorem copyStep_raster {u : State} (hr : u.raster = s.raster) (hb : u.barrier.shown = s.barrier.shown) :
    u.copyStep.raster = s.copyStep.raster := by
  unfold State.copyStep
  rw [hr]
  split
  · cases h : s.barrier.shown <;>
      simp [State.copyWrite, State.setDrawPlane, State.setPlane, State.drawPlane, State.shownPlane, State.plane, PlaneName.other, hb, h, hr]
  · exact hr

theorem copyStep_idle (h : s.raster.engine ≠ .copying ∨ 864 ≤ s.raster.issued + 1) : s.copyStep = s := by
  refine if_neg ?_
  simp only [Config.planeBytes]
  rintro ⟨h1, h2⟩
  rcases h with h | h
  · exact h h1
  · omega

/-- A copy write lands in the draw plane, at the place of the next write (R7, R124). -/
theorem copyStep_copies (h1 : s.raster.engine = .copying) (h2 : s.raster.issued + 1 < 864) :
    s.copyStep.raster = { s.raster with
      issued := s.raster.issued + 1, planeA := s.copyStep.raster.planeA, planeB := s.copyStep.raster.planeB } ∧
    s.copyStep.shownPlane = s.shownPlane ∧ (s.drawPlane.wf = true → ∀ a, s.copyStep.drawPlane.read a =
      if a = s.raster.issued then s.shownPlane.read a else s.drawPlane.read a) := by
  have hcopy : s.copyStep = s.copyWrite := if_pos ⟨h1, h2⟩
  rw [hcopy]
  refine ⟨?_, ?_, fun hwf a => ?_⟩
  · cases h : s.barrier.shown <;> simp [State.copyWrite, State.setDrawPlane, State.setPlane, PlaneName.other, h]
  · rw [State.shownPlane, (draws_copyWrite s).barrier]
    exact (draws_copyWrite s).shownPlane
  · have hdraw : s.copyWrite.drawPlane = s.drawPlane.write s.raster.issued (s.shownPlane.read s.raster.issued) :=
      (plane_congr rfl rfl _).trans (drawPlane_setDrawPlane s _)
    rw [hdraw, Memory.read_write _ _ _ _ hwf (by simp only [Config.planeBytes]; omega)]
    by_cases ha : a = s.raster.issued
    · rw [if_pos ha, if_pos ha.symm, ha]
    · rw [if_neg ha, if_neg (Ne.symm ha)]

/-! ### The bit time -/

/-- The state a bit time later, but for the rows put in the queue: the timers counted, the line and the engine as they are given. -/
def State.later (s : State) (bus : Bus) (raster : Raster) (rows : List Instr) : State := { s with
  bus := bus, raster := raster, pending := rows
  members := { s.members with
    listenTimer := s.members.listenTimer.map (· + s.straps.bitUnits), beaconTimer := s.members.beaconTimer.map (· + s.straps.bitUnits) }
  peers := s.peers.map fun p => { p with silence := p.silence.map (· + s.straps.bitUnits) }
  barrier := { s.barrier with timer := s.barrier.timer.map (· + s.straps.bitUnits) }
  edge := { s.edge with timer := s.edge.timer.map (· + s.straps.bitUnits) }
  scan := { s.scan with timer := s.scan.timer.map (· + s.straps.bitUnits) } }

/-- A bit time: the line's part, the timers, one copy write, and the rows. -/
theorem bitTime_eq {bus : Bus} {line : List Instr} (hb : bus = (s.lineBit s.ownBit).bus)
    (hl : line = (s.lineBit s.ownBit).pending) :
    s.bitTime = s.later bus s.copyStep.raster (line ++ (s.later bus s.copyStep.raster line).bitRows) := by
  obtain ⟨l, e⟩ := (lineMoves_lineBit s s.ownBit).rest
  have hline : s.lineBit s.ownBit = { s with bus := bus, pending := line } := by
    have hpending := congrArg State.pending e
    rw [hl, hb, hpending]
    exact e
  have hcopied : (s.lineBit s.ownBit).advanceTimers.copyStep = s.later bus s.copyStep.raster line := by
    have hraster : (State.advanceTimers { s with bus := bus, pending := line }).copyStep.raster = s.copyStep.raster :=
      copyStep_raster rfl rfl
    rw [copyStep_frame, hline, hraster]
    rfl
  unfold State.bitTime
  dsimp only
  rw [hcopied]
  rfl

theorem later_peer (bus : Bus) (raster : Raster) (rows : List Instr) (n : Station) :
    (s.later bus raster rows).peer n = { s.peer n with silence := (s.peer n).silence.map (· + s.straps.bitUnits) } := by
  unfold State.peer State.later
  dsimp only
  rw [List.getElem?_map]
  cases s.peers[n.val]? <;> rfl

/-- The rows of a bit time (R7, R48, R124). -/
theorem later_bitRows (bus : Bus) (raster : Raster) (rows line : List Instr) (hr : raster.engine = s.raster.engine) :
    (s.later bus raster line).bitRows =
      (if bus.tx = none ∧ bus.framing.stage = .idle ∧ bus.framing.requiredGap ≤ bus.framing.gap ∧
        (s.later bus raster rows).candidate ≠ none then [.contend []] else []) ++
      (if s.raster.engine = .applying ∧ (∀ x, s.edge.shift = some x → x.step = .move ∨ x.step = .fill) then [.drawPlaneWrite] else []) ++
      (if s.raster.engine = .copying ∧ 864 ≤ raster.issued + 1 then [.copyComplete] else []) := by
  have hwrite : (s.later bus raster line).writeWaits = true ↔
      s.raster.engine = .applying ∧ ∀ x, s.edge.shift = some x → x.step = .move ∨ x.step = .fill := by
    unfold State.writeWaits
    rw [Bool.and_eq_true, decide_eq_true_iff, show (s.later bus raster line).raster.engine = s.raster.engine from hr,
      show (s.later bus raster line).edge.shift = s.edge.shift from rfl]
    refine and_congr_right fun _ => ?_
    cases s.edge.shift <;> simp
  have hcopy : decide ((s.later bus raster line).raster.engine = .copying ∧
      Config.planeBytes ≤ (s.later bus raster line).raster.issued + 1) = true ↔
        s.raster.engine = .copying ∧ 864 ≤ raster.issued + 1 := by
    rw [decide_eq_true_iff, show (s.later bus raster line).raster.engine = s.raster.engine from hr]
    rfl
  unfold State.bitRows dueWhen
  exact congr (congrArg _ (congr (congrArg _ (if_congr (mayContend_iff _) rfl rfl)) (if_congr hwrite rfl rfl))) (if_congr hcopy rfl rfl)

/-! ### The line of a station that follows -/

theorem enqueue_pending (hp : s.pending = []) (l : List Instr) : (s.enqueue l).pending = l := by
  rw [State.enqueue, hp, List.nil_append]

theorem count_released (f : Framing) : f.count .released = { f with recRun := f.recRun + 1, domRun := 0 } := rfl

/-- What a station that follows puts on the line: its ack slot, where it has decided to ack and may (R39, R46). -/
theorem ownBit_follows (hh : s.held = false) (ht : s.bus.tx = none) : s.ownBit =
    if s.bus.framing.stage = .ack ∧ s.bus.framing.position = s.straps.n.val ∧ s.bus.framing.ackDue = true ∧ s.handsOn = true
      then .held else .released := by
  unfold State.ownBit
  rw [hh, ht]
  cases hn : s.handsOn with
  | false => simp
  | true => simp

theorem ownBit_away (hh : s.held = false) (ht : s.bus.tx = none) (hs : s.bus.framing.stage ≠ .ack) : s.ownBit = .released := by
  rw [ownBit_follows hh ht, if_neg fun h => hs h.1]

theorem hear_unsynced (hs : s.bus.framing.stage = .unsynced) : s.hear .released =
    if 32 ≤ s.bus.framing.recRun + 1 then s.enqueue [.linePlaced]
    else s.setFraming { s.bus.framing with recRun := s.bus.framing.recRun + 1, domRun := 0 } := by
  by_cases hr : 32 ≤ s.bus.framing.recRun + 1
  · have hrow : s.bus.framing.rowFor .released = some .linePlaced := by
      simp only [Framing.rowFor, hs, count_released]
      exact if_pos hr
    simp only [State.hear, hrow, hs, if_pos hr]
    rfl
  · have hrow : s.bus.framing.rowFor .released = none := by
      simp only [Framing.rowFor, hs, count_released]
      exact if_neg hr
    have hfollow := (follow_coded s.bus.framing _ .released rfl).1 hs
    simp only [count_released] at hfollow
    simp only [State.hear, hrow, hfollow, if_neg hr, hs]
    simp

theorem hear_idle (hs : s.bus.framing.stage = .idle) : s.hear .released =
    s.setFraming { s.bus.framing with recRun := s.bus.framing.recRun + 1, domRun := 0, gap := s.bus.framing.gap + 1 } := by
  have hrow : s.bus.framing.rowFor .released = none := by simp only [Framing.rowFor, hs]
  have hfollow := (follow_bare s.bus.framing _ .released rfl).1 hs
  rw [if_neg (by simp [LineBit.readsZero])] at hfollow
  simp only [State.hear, hrow, hfollow, hs]
  simp [LineBit.bare, LineBit.readsZero, count_released, hs]

theorem hear_frame (hs : s.bus.framing.stage = .frame) : s.hear .released =
    (s.setFraming { s.bus.framing with
      recRun := s.bus.framing.recRun + 1, domRun := 0, bits := s.bus.framing.bits ++ [true] }).enqueue
        (decodeFrame (s.bus.framing.bits ++ [true])).toList := by
  have hrow : s.bus.framing.rowFor .released = decodeFrame (s.bus.framing.bits ++ [true]) := by
    simp only [Framing.rowFor, hs, count_released]
    rfl
  have hfollow := (follow_coded s.bus.framing _ .released rfl).2 hs
  simp only [count_released] at hfollow
  cases hd : decodeFrame (s.bus.framing.bits ++ [true]) with
  | some row =>
    simp only [State.hear, hrow, hd, hs, if_true, hfollow]
    rfl
  | none =>
    simp only [State.hear, hrow, hd, hs, hfollow]
    simp [State.enqueue, LineBit.readsZero, State.setFraming]

/-- The ack field passes slot by slot, the own slot with what the station drives (R42, R46). -/
theorem hear_ack (hs : s.bus.framing.stage = .ack) (b : LineBit) : s.hear b = s.setFraming { s.bus.framing with
    stage := if s.bus.framing.position + 1 < 16 then .ack else .ending
    position := if s.bus.framing.position + 1 < 16 then s.bus.framing.position + 1 else 0
    domRun := if s.bus.framing.position + 1 < 16 then s.bus.framing.domRun else 0
    recRun := if b.readsZero = true then 0 else s.bus.framing.recRun + 1
    ackDue := s.bus.framing.ackDue && !decide (s.bus.framing.position = s.straps.n.val) } := by
  have hrow : s.bus.framing.rowFor b = none := by simp only [Framing.rowFor, hs]
  have hfollow := (follow_bare s.bus.framing _ b rfl).2.1 hs
  have hrun : (s.bus.framing.count b.bare).recRun = if b.readsZero = true then 0 else s.bus.framing.recRun + 1 := by
    rw [count_eq _ _ (bare_dominant _ b).symm]
    split <;> rfl
  have hlast : s.bus.framing.position < 15 ↔ s.bus.framing.position + 1 < 16 := by omega
  simp only [hrun, hlast] at hfollow
  simp only [State.hear, hrow, hfollow, hs, true_and]

theorem hear_ending (hs : s.bus.framing.stage = .ending) : s.hear .released =
    if s.bus.framing.position + 1 < 7 then
      s.setFraming { s.bus.framing with recRun := s.bus.framing.recRun + 1, domRun := 0, position := s.bus.framing.position + 1 }
    else s.enqueue [.lineEnd] := by
  have hfollow := (follow_bare s.bus.framing _ .released rfl).2.2.1 hs
  by_cases hp : s.bus.framing.position + 1 < 7
  · have hrow : s.bus.framing.rowFor .released = none := by
      simp only [Framing.rowFor, hs]
      exact if_pos hp
    rw [if_neg (by simp [LineBit.readsZero]), if_pos (by omega)] at hfollow
    simp only [State.hear, hrow, hfollow, if_pos hp, hs]
    simp [LineBit.bare, LineBit.readsZero, count_released, hs]
  · have hrow : s.bus.framing.rowFor .released = some .lineEnd := by
      simp only [Framing.rowFor, hs]
      exact if_neg hp
    simp only [State.hear, hrow, hs, if_neg hp]
    rfl

theorem hear_break (hs : s.bus.framing.stage = .break) : s.hear .released = s.enqueue [.linePlaced] := by
  have hrow : s.bus.framing.rowFor .released = some .linePlaced := by
    simp only [Framing.rowFor, hs]
    rfl
  simp only [State.hear, hrow, hs]
  rfl

/-! ### The line of a station that sends -/

/-- What the station drives reads 0 in the stages whose bits are not coded, and otherwise by the line coding (R39). -/
theorem drivesTbd_held (h : s.ownBit = .held) : s.drivesTbd = true := by
  unfold State.drivesTbd
  rw [h]
  split <;> rfl

theorem drivesTbd_frame (hs : s.bus.framing.stage = .frame) : s.drivesTbd = s.bus.framing.dominantFor s.ownBit := by
  unfold State.drivesTbd
  rw [hs]

theorem ownBit_sends (hh : s.held = false) (hn : s.handsOn = true) {x : Txn} (ht : s.bus.tx = some x) : s.ownBit =
    match x.phase with
    | .sending p => match (s.attemptBits x)[p]? with
      | some bit => .coded (!bit)
      | none => .released
    | .breaking wait _ _ => if wait = 0 then .held else .released
    | .acks _ _ | .closing _ _ => .released := by
  unfold State.ownBit
  rw [hh, hn, ht]
  rfl

/-- A bit of the message, read back as it was sent (R50). -/
theorem transmitBit_sending {x : Txn} {p : Nat} {bit : Bool} (hx : x.phase = .sending p) (hb : (s.attemptBits x)[p]? = some bit) :
    s.transmitBit x (.coded (!bit)) =
      if p + 1 = 42 + 8 * x.payload.length then
        if x.owner = .canvas ∧ x.crcDone = false then s.enqueue [.selfDelivery] else s.completeCrc x
      else (s.setFraming (s.bus.framing.follow (.coded (!bit)))).setTx (some { x with phase := .sending (p + 1) }) := by
  have hlen : (s.attemptBits x).length = 42 + 8 * x.payload.length := frameBits_length _ _
  unfold State.transmitBit
  simp only [hx, hb, hlen, Option.getD_some, LineBit.readsZero, Bool.and_not_self, Bool.false_and, Bool.false_eq_true, if_false]
  rw [if_neg (by cases bit <;> simp)]

theorem transmitBit_acks {x : Txn} {p : Nat} {slots : List Station} (hx : x.phase = .acks p slots) : s.transmitBit x .released =
    if p + 1 = 16 then s.enqueue [.ackFieldEnd slots]
    else (s.setFraming (s.bus.framing.follow .released)).setTx (some { x with phase := .acks (p + 1) slots }) := by
  unfold State.transmitBit
  simp only [hx]
  rfl

theorem transmitBit_closing {x : Txn} {p : Nat} {complete : Bool} (hx : x.phase = .closing p complete) : s.transmitBit x .released =
    if p + 1 = 7 then s.enqueue [.transactionEnd]
    else (s.setFraming (s.bus.framing.follow .released)).setTx (some { x with phase := .closing (p + 1) complete }) := by
  unfold State.transmitBit
  simp only [hx]
  rfl

theorem transmitBit_breaking {x : Txn} {wait left : Nat} {soft : Bool} (hx : x.phase = .breaking wait left soft) (b : LineBit) :
    s.transmitBit x b =
      if wait ≠ 0 then (s.setFraming (s.bus.framing.follow b)).setTx (some { x with phase := .breaking (wait - 1) left soft })
      else if left ≤ 1 then s.enqueue [.transactionEnd]
      else (s.setFraming (s.bus.framing.follow b)).setTx (some { x with phase := .breaking 0 (left - 1) soft }) := by
  unfold State.transmitBit
  simp only [hx]

/-- A bit of a message in FRAME, within the bound of the line coding (R39, R42). -/
theorem follow_frame_coded {f : Framing} (hf : f.Coded) (hs : f.stage = .frame) (bit : Bool) :
    f.follow (.coded (!bit)) = { f.count (.coded (!bit)) with bits := f.bits ++ [bit] } ∧ (f.follow (.coded (!bit))).Coded := by
  obtain ⟨-, -, hcoded⟩ := hf.follow hs (!bit)
  refine ⟨?_, hcoded⟩
  have hfollow := (follow_coded f _ (.coded (!bit)) rfl).2 hs
  have hdom := (hf.count (!bit)).dominant
  simp only [Config.codedRun] at hdom
  rw [if_neg (by omega)] at hfollow
  rw [hfollow, LineBit.readsZero, Bool.not_not]

end Sys2Proof.Machine
end

section
/-! PROOFS. The rows and the line of a step on an empty queue, put together (O3). -/

namespace Sys2Proof.Machine

variable {s : State}

theorem copyStep_engine (s : State) : s.copyStep.raster.engine = s.raster.engine := by
  by_cases h : s.raster.engine = .copying ∧ s.raster.issued + 1 < 864
  · rw [(copyStep_copies h.1 h.2).1]
  · rw [copyStep_idle]
    rcases not_and_or.mp h with h | h
    · exact .inl h
    · exact .inr (by omega)

theorem later_planes (bus : Bus) (rows : List Instr) : (s.later bus s.copyStep.raster rows).shownPlane = s.copyStep.shownPlane ∧
    (s.later bus s.copyStep.raster rows).drawPlane = s.copyStep.drawPlane := by
  have hshown : s.copyStep.barrier.shown = s.barrier.shown := (congrArg (·.barrier.shown) (copyStep_frame s)).trans rfl
  rw [State.shownPlane, State.drawPlane, State.shownPlane, State.drawPlane, hshown]
  exact ⟨plane_congr rfl rfl _, plane_congr rfl rfl _⟩

theorem hear_tx (s : State) (b : LineBit) : (s.hear b).bus.tx = s.bus.tx := by
  unfold State.hear
  dsimp only
  split
  · split <;> rfl
  · rfl

theorem drivesTbd_ack (hs : s.bus.framing.stage = .ack) : s.drivesTbd = s.ownBit.readsZero := by
  unfold State.drivesTbd
  rw [hs]

/-- A bit of a message in FRAME: what its level makes of the run counts (R39). -/
theorem follow_runs {f g : Framing} {bit dominant : Bool} (hs : f.stage = .frame) (hf : f.Coded)
    (hg : g = f.follow (.coded (!bit))) (hd : dominant = f.dominantFor (.coded (!bit))) :
    g = { f with bits := f.bits ++ [bit], domRun := g.domRun, recRun := g.recRun } ∧
      g.domRun ≤ 8 ∧ g.recRun ≤ 8 ∧ (g.domRun = 0 ∨ g.recRun = 0) ∧
      (dominant = true → g.domRun = f.domRun + 1) ∧ (dominant = false → g.recRun = f.recRun + 1) ∧
      (bit = false → f.domRun < 8 → dominant = true) ∧ (bit = true → f.recRun < 8 → dominant = false) := by
  obtain ⟨hfollow, hcoded⟩ := follow_frame_coded hf hs bit
  rw [← hg] at hfollow hcoded
  rw [count_eq f _ hd] at hfollow
  refine ⟨?_, hcoded.dominant, hcoded.recessive, hcoded.single, fun h => ?_, fun h => ?_, fun hb h => ?_, fun hb h => ?_⟩
  · rw [hfollow]
    split <;> rfl
  · rw [hfollow, if_pos h]
  · rw [hfollow, if_neg (ne_true_of_eq_false h)]
  · rw [hd, hb]
    exact decide_eq_true h
  · rw [hd, hb]
    exact decide_eq_false (Nat.not_le.mpr h)

/-- The first bit of a message, sent where a station may (R42, R48). -/
theorem follow_start {f : Framing} (h : f.stage = .idle ∨ f.stage = .ending ∧ f.position = 0) :
    f.follow (.coded true) = Framing.startBit := by
  rcases h with h | ⟨h, hp⟩
  · exact ((follow_bare f _ (.coded true) rfl).1 h).trans (if_pos rfl)
  · exact ((follow_bare f _ (.coded true) rfl).2.2.1 h).trans ((if_pos rfl).trans (if_pos hp))

/-- Settles O3: the expired timers' rows, and otherwise the line's part of a bit time stage by stage and phase by phase. -/
theorem emptyQueuePassesBitTime : Obligations.EmptyQueuePassesBitTime := by
  intro s hp
  refine ⟨fun hh => step_held hh hp, fun hh due hdue => ?_⟩
  have hexpired (i : Instr) : due i ↔ i ∈ s.expired := (hdue i).trans (mem_expired s i).symm
  have hstep : step s = .next s.tick := by rw [step, hp]
  refine ⟨fun ⟨i, hi⟩ => ?_, fun hno => ?_⟩
  · cases he : s.expired with
    | nil =>
      rw [hexpired, he] at hi
      cases hi
    | cons row rest =>
      refine ⟨row, (hexpired row).mpr (by rw [he]; exact List.mem_cons_self), ?_⟩
      rw [hstep]
      simp only [State.tick, whenRunning, hh, Bool.false_eq_true, if_false, he, State.enqueue, hp, List.nil_append]
  have he : s.expired = [] := List.eq_nil_iff_forall_not_mem.mpr fun i hi => hno i ((hexpired i).mpr hi)
  obtain ⟨v, hv⟩ : ∃ v, v = s.lineBit s.ownBit := ⟨_, rfl⟩
  have hbit := bitTime_eq (congrArg State.bus hv) (congrArg State.pending hv)
  obtain ⟨rows, hrows⟩ : ∃ rows, rows = v.pending ++ (s.later v.bus s.copyStep.raster v.pending).bitRows := ⟨_, rfl⟩
  rw [← hrows] at hbit
  rw [later_bitRows v.bus s.copyStep.raster rows v.pending (copyStep_engine s), ← List.append_assoc, ← List.append_assoc] at hrows
  refine ⟨s.later v.bus s.copyStep.raster rows, v.pending, ?_, rfl, hh, rfl, rfl, rfl, rfl, rfl, rfl, later_peer _ _ _, rfl, rfl, rfl, rfl,
    rfl, rfl, rfl, ?_, hrows, fun h => (congrArg State.raster (copyStep_idle h) :), fun h1 h2 => ?_, ?_⟩
  · rw [hstep]
    simp only [State.tick, whenRunning, hh, Bool.false_eq_true, if_false, he, hbit]
  · rw [hv]
    exact (lineMoves_lineBit s s.ownBit).aborts
  · obtain ⟨hshown, hdraw⟩ := later_planes (s := s) v.bus rows
    rw [hshown, hdraw]
    exact copyStep_copies h1 h2
  clear hrows hbit
  rintro f rfl
  refine ⟨fun ht => ?_, fun x hx h1 h2 => ?_⟩
  · have hhear : v = s.hear s.ownBit := hv.trans (by unfold State.lineBit; rw [ht])
    have hquiet (hs : s.bus.framing.stage ≠ .ack) : v = s.hear .released := by rw [hhear, ownBit_away hh ht hs]
    refine ⟨?_, fun hs hr => ?_, fun hs hr => ?_, fun hs => ?_, fun hs => ?_, fun hs => ?_, fun hs => ?_, fun hs => ?_, fun hs hr => ?_,
      fun hs hr => ?_, fun hs => ?_⟩
    · rw [hhear]
      exact (hear_tx s _).trans ht
    · rw [hquiet (by simp [hs]), hear_unsynced hs, if_neg (by omega)]
      exact ⟨hp, rfl⟩
    · rw [hquiet (by simp [hs]), hear_unsynced hs, if_pos hr]
      exact ⟨enqueue_pending hp _, rfl⟩
    · rw [hquiet (by simp [hs]), hear_idle hs]
      exact ⟨hp, rfl⟩
    · rw [hquiet (by simp [hs]), hear_frame hs]
      exact ⟨enqueue_pending (s := s.setFraming _) hp _, rfl⟩
    · rw [hhear, hear_ack hs, drivesTbd_ack hs]
      exact ⟨hp, rfl⟩
    · rw [drivesTbd_ack hs, ownBit_follows hh ht]
      unfold State.handsOn
      simp only [hs, true_and, decide_eq_true_eq]
      split
      · next h => exact iff_of_true rfl ⟨h.2.1, h.1, h.2.2⟩
      · next h => exact iff_of_false Bool.false_ne_true fun k => h ⟨k.2.1, k.1, k.2.2⟩
    · exact drivesTbd_released (ownBit_away hh ht hs)
    · rw [hquiet (by simp [hs]), hear_ending hs, if_pos hr]
      exact ⟨hp, rfl⟩
    · rw [hquiet (by simp [hs]), hear_ending hs, if_neg (by omega)]
      exact ⟨enqueue_pending hp _, rfl⟩
    · rw [hquiet (by simp [hs]), hear_break hs]
      exact ⟨enqueue_pending hp _, rfl⟩
  · have hown := ownBit_sends hh (decide_eq_true ⟨h1, h2⟩) hx
    have hsend {b : LineBit} (hb : s.ownBit = b) : v = s.transmitBit x b := by
      rw [hv, hb]
      unfold State.lineBit
      rw [hx]
    refine ⟨fun p bit hph hbit => ?_, fun p slots hph => ?_, fun p complete hph => ?_, fun wait left soft hph => ?_⟩
    · have hbit' : s.ownBit = .coded (!bit) := by simp only [hown, hph, hbit]
      have hsent := (hsend hbit').trans (transmitBit_sending hph hbit)
      refine ⟨fun hlt => ?_, fun hlast ho hc => ?_, fun hlast ho => ?_⟩
      · rw [if_neg (by omega)] at hsent
        rw [hsent]
        refine ⟨hp, rfl, rfl, fun hb _ hs => ?_, fun hs hd hr h0 => ?_⟩
        · subst hb
          exact follow_start hs
        · rw [drivesTbd_frame hs, hbit']
          exact follow_runs hs ⟨hd, hr, h0⟩ rfl rfl
      · rw [if_pos hlast, if_pos ⟨ho, hc⟩] at hsent
        rw [hsent]
        exact ⟨enqueue_pending hp _, rfl⟩
      · have hagain : ¬ (x.owner = .canvas ∧ x.crcDone = false) := by
          rintro ⟨ho', hc⟩
          rcases ho with ho | ho
          · exact ho ho'
          · rw [hc] at ho
            cases ho
        rw [if_pos hlast, if_neg hagain, completeCrc_again s hagain] at hsent
        rw [hsent]
        exact ⟨hp, rfl, rfl⟩
    · have hreleased : s.ownBit = .released := by simp only [hown, hph]
      have hsent := (hsend hreleased).trans (transmitBit_acks hph)
      refine ⟨drivesTbd_released hreleased, fun hlast => ?_, fun hmore => ?_⟩
      · rw [if_pos hlast] at hsent
        rw [hsent]
        exact ⟨enqueue_pending hp _, rfl⟩
      · rw [if_neg hmore] at hsent
        rw [hsent]
        exact ⟨hp, rfl, rfl⟩
    · have hreleased : s.ownBit = .released := by simp only [hown, hph]
      have hsent := (hsend hreleased).trans (transmitBit_closing hph)
      refine ⟨drivesTbd_released hreleased, fun hlast => ?_, fun hmore => ?_⟩
      · rw [if_pos hlast] at hsent
        rw [hsent]
        exact ⟨enqueue_pending hp _, rfl⟩
      · rw [if_neg hmore] at hsent
        rw [hsent]
        exact ⟨hp, rfl, rfl⟩
    · have hbreak : s.ownBit = if wait = 0 then .held else .released := by simp only [hown, hph]
      refine ⟨?_, fun hw => ?_, fun hw hl => ?_, fun hw hl => ?_⟩
      · by_cases hw : wait = 0
        · rw [if_pos hw] at hbreak
          rw [drivesTbd_held hbreak, decide_eq_true hw]
        · rw [if_neg hw] at hbreak
          rw [drivesTbd_released hbreak, decide_eq_false hw]
      · rw [if_neg hw] at hbreak
        rw [(hsend hbreak).trans (transmitBit_breaking hph _), if_pos hw]
        exact ⟨hp, rfl, rfl⟩
      · rw [if_pos hw] at hbreak
        rw [(hsend hbreak).trans (transmitBit_breaking hph _), if_neg (not_not.mpr hw), if_pos hl]
        exact ⟨enqueue_pending hp _, rfl⟩
      · rw [if_pos hw] at hbreak
        rw [(hsend hbreak).trans (transmitBit_breaking hph _), if_neg (not_not.mpr hw), if_neg (by omega)]
        exact ⟨hp, rfl, rfl⟩

end Sys2Proof.Machine
end
